-- ==== Sys2Proof/Word.lean ====
section
/-! DEFINITION. The widths of the S1C63000's data (spec/00_scope.md R5): names for the bit vectors the whole model uses. -/

namespace Sys2Proof

/-- One 4-bit data word, the smallest addressable unit of data memory (R5, R42). -/
abbrev Nibble := BitVec 4

/-- An 8-bit value: BA, EXT, SP1, SP2, XL, XH, YL, YH (R5, R11, R12). -/
abbrev Byte := BitVec 8

/-- A 16-bit value or address: X, Y, PC, Q, data and program addresses (R5). -/
abbrev Addr := BitVec 16

/-- One 13-bit program word, a whole instruction (R5, R40). -/
abbrev PWord := BitVec 13

end Sys2Proof
end

