-- ==== Sys2Proof/Syntax.lean ====
section
/-! DEFINITION. Instr: the 412 instructions of spec/opcode_table.json, one constructor per row.
Constructor names spell the row's operands: `MemX` is `[%X]`, `MemXInc` is `[%X]+`, `MemAddr6` is `[addr6]`,
`Mem00Addr6` and `MemFFAddr6` are `[00addr6]` and `[FFaddr6]`, `Zero` is the constant operand 0 of the radix forms.
An operand is what the ASSEMBLER writes, cut to its width: for `CMP %ir,imm8` the value compared with (the code holds its
complement, R79), for a radix `n4` the radix 1 to 16 (R78), for `INT imm6` the low six bits of the vector address (R398).
Constructors with operands stand first: Lean's compiler numbers only so many constructors that carry data. -/

namespace Sys2Proof

/-- The instruction set (R72: 412 operand forms of 47 basic types). -/
inductive Instr where
  -- 4-bit transfer (spec/40_transfer_4bit.md): with operands in the word
  /-- `LD %A,imm4` (R102). -/
  | ldAImm4 (i : Nibble)
  /-- `LD %B,imm4` (R102). -/
  | ldBImm4 (i : Nibble)
  /-- `LD %F,imm4` (R102). -/
  | ldFImm4 (i : Nibble)
  /-- `LD [%X],imm4` (R107). -/
  | ldMemXImm4 (i : Nibble)
  /-- `LD [%Y],imm4` (R107). -/
  | ldMemYImm4 (i : Nibble)
  /-- `LD [%X]+,imm4` (R108). -/
  | ldMemXIncImm4 (i : Nibble)
  /-- `LD [%Y]+,imm4` (R108). -/
  | ldMemYIncImm4 (i : Nibble)
  -- 4-bit arithmetic (spec/41_arithmetic.md): with operands in the word
  /-- `ADD %A,imm4` (R123). -/
  | addAImm4 (i : Nibble)
  /-- `ADD %B,imm4` (R123). -/
  | addBImm4 (i : Nibble)
  /-- `ADD [%X],imm4` (R128). -/
  | addMemXImm4 (i : Nibble)
  /-- `ADD [%Y],imm4` (R128). -/
  | addMemYImm4 (i : Nibble)
  /-- `ADD [%X]+,imm4` (R129). -/
  | addMemXIncImm4 (i : Nibble)
  /-- `ADD [%Y]+,imm4` (R129). -/
  | addMemYIncImm4 (i : Nibble)
  /-- `ADC %A,imm4` (R131). -/
  | adcAImm4 (i : Nibble)
  /-- `ADC %B,imm4` (R131). -/
  | adcBImm4 (i : Nibble)
  /-- `ADC [%X],imm4` (R136). -/
  | adcMemXImm4 (i : Nibble)
  /-- `ADC [%Y],imm4` (R136). -/
  | adcMemYImm4 (i : Nibble)
  /-- `ADC [%X]+,imm4` (R137). -/
  | adcMemXIncImm4 (i : Nibble)
  /-- `ADC [%Y]+,imm4` (R137). -/
  | adcMemYIncImm4 (i : Nibble)
  /-- `SUB %A,imm4` (R139). -/
  | subAImm4 (i : Nibble)
  /-- `SUB %B,imm4` (R139). -/
  | subBImm4 (i : Nibble)
  /-- `SUB [%X],imm4` (R144). -/
  | subMemXImm4 (i : Nibble)
  /-- `SUB [%Y],imm4` (R144). -/
  | subMemYImm4 (i : Nibble)
  /-- `SUB [%X]+,imm4` (R145). -/
  | subMemXIncImm4 (i : Nibble)
  /-- `SUB [%Y]+,imm4` (R145). -/
  | subMemYIncImm4 (i : Nibble)
  /-- `SBC %A,imm4` (R147). -/
  | sbcAImm4 (i : Nibble)
  /-- `SBC %B,imm4` (R147). -/
  | sbcBImm4 (i : Nibble)
  /-- `SBC [%X],imm4` (R152). -/
  | sbcMemXImm4 (i : Nibble)
  /-- `SBC [%Y],imm4` (R152). -/
  | sbcMemYImm4 (i : Nibble)
  /-- `SBC [%X]+,imm4` (R153). -/
  | sbcMemXIncImm4 (i : Nibble)
  /-- `SBC [%Y]+,imm4` (R153). -/
  | sbcMemYIncImm4 (i : Nibble)
  /-- `CMP %A,imm4` (R155). -/
  | cmpAImm4 (i : Nibble)
  /-- `CMP %B,imm4` (R155). -/
  | cmpBImm4 (i : Nibble)
  /-- `CMP [%X],imm4` (R160). -/
  | cmpMemXImm4 (i : Nibble)
  /-- `CMP [%Y],imm4` (R160). -/
  | cmpMemYImm4 (i : Nibble)
  /-- `CMP [%X]+,imm4` (R161). -/
  | cmpMemXIncImm4 (i : Nibble)
  /-- `CMP [%Y]+,imm4` (R161). -/
  | cmpMemYIncImm4 (i : Nibble)
  /-- `INC [addr6]` (R162). -/
  | incMemAddr6 (a : BitVec 6)
  /-- `DEC [addr6]` (R163). -/
  | decMemAddr6 (a : BitVec 6)
  -- radix arithmetic (spec/42_radix_arithmetic.md): with operands in the word
  /-- `ADC %B,%A,n4` (R184). -/
  | adcBAN4 (n : Nat)
  /-- `ADC %B,[%X],n4` (R185). -/
  | adcBMemXN4 (n : Nat)
  /-- `ADC %B,[%Y],n4` (R185). -/
  | adcBMemYN4 (n : Nat)
  /-- `ADC %B,[%X]+,n4` (R186). -/
  | adcBMemXIncN4 (n : Nat)
  /-- `ADC %B,[%Y]+,n4` (R186). -/
  | adcBMemYIncN4 (n : Nat)
  /-- `ADC [%X],%B,n4` (R187). -/
  | adcMemXBN4 (n : Nat)
  /-- `ADC [%Y],%B,n4` (R187). -/
  | adcMemYBN4 (n : Nat)
  /-- `ADC [%X]+,%B,n4` (R188). -/
  | adcMemXIncBN4 (n : Nat)
  /-- `ADC [%Y]+,%B,n4` (R188). -/
  | adcMemYIncBN4 (n : Nat)
  /-- `ADC [%X],0,n4` (R189). -/
  | adcMemXZeroN4 (n : Nat)
  /-- `ADC [%Y],0,n4` (R189). -/
  | adcMemYZeroN4 (n : Nat)
  /-- `ADC [%X]+,0,n4` (R190). -/
  | adcMemXIncZeroN4 (n : Nat)
  /-- `ADC [%Y]+,0,n4` (R190). -/
  | adcMemYIncZeroN4 (n : Nat)
  /-- `SBC %B,%A,n4` (R191). -/
  | sbcBAN4 (n : Nat)
  /-- `SBC %B,[%X],n4` (R192). -/
  | sbcBMemXN4 (n : Nat)
  /-- `SBC %B,[%Y],n4` (R192). -/
  | sbcBMemYN4 (n : Nat)
  /-- `SBC %B,[%X]+,n4` (R193). -/
  | sbcBMemXIncN4 (n : Nat)
  /-- `SBC %B,[%Y]+,n4` (R193). -/
  | sbcBMemYIncN4 (n : Nat)
  /-- `SBC [%X],%B,n4` (R194). -/
  | sbcMemXBN4 (n : Nat)
  /-- `SBC [%Y],%B,n4` (R194). -/
  | sbcMemYBN4 (n : Nat)
  /-- `SBC [%X]+,%B,n4` (R195). -/
  | sbcMemXIncBN4 (n : Nat)
  /-- `SBC [%Y]+,%B,n4` (R195). -/
  | sbcMemYIncBN4 (n : Nat)
  /-- `SBC [%X],0,n4` (R196). -/
  | sbcMemXZeroN4 (n : Nat)
  /-- `SBC [%Y],0,n4` (R196). -/
  | sbcMemYZeroN4 (n : Nat)
  /-- `SBC [%X]+,0,n4` (R197). -/
  | sbcMemXIncZeroN4 (n : Nat)
  /-- `SBC [%Y]+,0,n4` (R197). -/
  | sbcMemYIncZeroN4 (n : Nat)
  /-- `INC [%X],n4` (R198). -/
  | incMemXN4 (n : Nat)
  /-- `INC [%Y],n4` (R198). -/
  | incMemYN4 (n : Nat)
  /-- `INC [%X]+,n4` (R199). -/
  | incMemXIncN4 (n : Nat)
  /-- `INC [%Y]+,n4` (R199). -/
  | incMemYIncN4 (n : Nat)
  /-- `DEC [%X],n4` (R200). -/
  | decMemXN4 (n : Nat)
  /-- `DEC [%Y],n4` (R200). -/
  | decMemYN4 (n : Nat)
  /-- `DEC [%X]+,n4` (R201). -/
  | decMemXIncN4 (n : Nat)
  /-- `DEC [%Y]+,n4` (R201). -/
  | decMemYIncN4 (n : Nat)
  -- logic and bit operations (spec/43_logic.md): with operands in the word
  /-- `AND %A,imm4` (R213). -/
  | andAImm4 (i : Nibble)
  /-- `AND %B,imm4` (R213). -/
  | andBImm4 (i : Nibble)
  /-- `AND [%X],imm4` (R218). -/
  | andMemXImm4 (i : Nibble)
  /-- `AND [%Y],imm4` (R218). -/
  | andMemYImm4 (i : Nibble)
  /-- `AND [%X]+,imm4` (R219). -/
  | andMemXIncImm4 (i : Nibble)
  /-- `AND [%Y]+,imm4` (R219). -/
  | andMemYIncImm4 (i : Nibble)
  /-- `AND %F,imm4` (R220). -/
  | andFImm4 (i : Nibble)
  /-- `OR %A,imm4` (R222). -/
  | orAImm4 (i : Nibble)
  /-- `OR %B,imm4` (R222). -/
  | orBImm4 (i : Nibble)
  /-- `OR [%X],imm4` (R227). -/
  | orMemXImm4 (i : Nibble)
  /-- `OR [%Y],imm4` (R227). -/
  | orMemYImm4 (i : Nibble)
  /-- `OR [%X]+,imm4` (R228). -/
  | orMemXIncImm4 (i : Nibble)
  /-- `OR [%Y]+,imm4` (R228). -/
  | orMemYIncImm4 (i : Nibble)
  /-- `OR %F,imm4` (R229). -/
  | orFImm4 (i : Nibble)
  /-- `XOR %A,imm4` (R231). -/
  | xorAImm4 (i : Nibble)
  /-- `XOR %B,imm4` (R231). -/
  | xorBImm4 (i : Nibble)
  /-- `XOR [%X],imm4` (R236). -/
  | xorMemXImm4 (i : Nibble)
  /-- `XOR [%Y],imm4` (R236). -/
  | xorMemYImm4 (i : Nibble)
  /-- `XOR [%X]+,imm4` (R237). -/
  | xorMemXIncImm4 (i : Nibble)
  /-- `XOR [%Y]+,imm4` (R237). -/
  | xorMemYIncImm4 (i : Nibble)
  /-- `XOR %F,imm4` (R238). -/
  | xorFImm4 (i : Nibble)
  /-- `BIT %A,imm4` (R240). -/
  | bitAImm4 (i : Nibble)
  /-- `BIT %B,imm4` (R240). -/
  | bitBImm4 (i : Nibble)
  /-- `BIT [%X],imm4` (R245). -/
  | bitMemXImm4 (i : Nibble)
  /-- `BIT [%Y],imm4` (R245). -/
  | bitMemYImm4 (i : Nibble)
  /-- `BIT [%X]+,imm4` (R246). -/
  | bitMemXIncImm4 (i : Nibble)
  /-- `BIT [%Y]+,imm4` (R246). -/
  | bitMemYIncImm4 (i : Nibble)
  /-- `CLR [00addr6],imm2` (R247). -/
  | clrMem00Addr6Imm2 (a : BitVec 6) (b : BitVec 2)
  /-- `CLR [FFaddr6],imm2` (R247). -/
  | clrMemFFAddr6Imm2 (a : BitVec 6) (b : BitVec 2)
  /-- `SET [00addr6],imm2` (R248). -/
  | setMem00Addr6Imm2 (a : BitVec 6) (b : BitVec 2)
  /-- `SET [FFaddr6],imm2` (R248). -/
  | setMemFFAddr6Imm2 (a : BitVec 6) (b : BitVec 2)
  /-- `TST [00addr6],imm2` (R249). -/
  | tstMem00Addr6Imm2 (a : BitVec 6) (b : BitVec 2)
  /-- `TST [FFaddr6],imm2` (R249). -/
  | tstMemFFAddr6Imm2 (a : BitVec 6) (b : BitVec 2)
  -- 8-bit and 16-bit transfer and arithmetic (spec/45_transfer_8_16bit.md): with operands in the word
  /-- `LDB %BA,imm8` (R271). -/
  | ldbBAImm8 (i : Byte)
  /-- `LDB [%X]+,imm8` (R277). -/
  | ldbMemXIncImm8 (i : Byte)
  /-- `LDB %EXT,imm8` (R278). -/
  | ldbEXTImm8 (i : Byte)
  /-- `LDB %XL,imm8` (R280). -/
  | ldbXLImm8 (i : Byte)
  /-- `LDB %YL,imm8` (R280). -/
  | ldbYLImm8 (i : Byte)
  /-- `ADD %X,sign8` (R284). -/
  | addXSign8 (d : Byte)
  /-- `ADD %Y,sign8` (R284). -/
  | addYSign8 (d : Byte)
  /-- `CMP %X,imm8` (R285). -/
  | cmpXImm8 (i : Byte)
  /-- `CMP %Y,imm8` (R285). -/
  | cmpYImm8 (i : Byte)
  -- branch control (spec/47_branch.md): with operands in the word
  /-- `JR sign8` (R382). -/
  | jrSign8 (d : Byte)
  /-- `JR [addr6]` (R385). -/
  | jrMemAddr6 (a : BitVec 6)
  /-- `JRC sign8` (R386). -/
  | jrcSign8 (d : Byte)
  /-- `JRNC sign8` (R387). -/
  | jrncSign8 (d : Byte)
  /-- `JRZ sign8` (R388). -/
  | jrzSign8 (d : Byte)
  /-- `JRNZ sign8` (R389). -/
  | jrnzSign8 (d : Byte)
  /-- `CALZ imm8` (R391). -/
  | calzImm8 (i : Byte)
  /-- `CALR sign8` (R392). -/
  | calrSign8 (d : Byte)
  /-- `CALR [addr6]` (R393). -/
  | calrMemAddr6 (a : BitVec 6)
  /-- `RETD imm8` (R396). -/
  | retdImm8 (i : Byte)
  /-- `INT imm6` (R398). -/
  | intImm6 (v : BitVec 6)
  -- 4-bit transfer (spec/40_transfer_4bit.md): without an operand in the word
  /-- `LD %A,%A` (R101). -/
  | ldAA
  /-- `LD %A,%B` (R101). -/
  | ldAB
  /-- `LD %A,%F` (R101). -/
  | ldAF
  /-- `LD %B,%A` (R101). -/
  | ldBA
  /-- `LD %B,%B` (R101). -/
  | ldBB
  /-- `LD %F,%A` (R101). -/
  | ldFA
  /-- `LD %A,[%X]` (R103). -/
  | ldAMemX
  /-- `LD %A,[%Y]` (R103). -/
  | ldAMemY
  /-- `LD %B,[%X]` (R103). -/
  | ldBMemX
  /-- `LD %B,[%Y]` (R103). -/
  | ldBMemY
  /-- `LD %A,[%X]+` (R104). -/
  | ldAMemXInc
  /-- `LD %A,[%Y]+` (R104). -/
  | ldAMemYInc
  /-- `LD %B,[%X]+` (R104). -/
  | ldBMemXInc
  /-- `LD %B,[%Y]+` (R104). -/
  | ldBMemYInc
  /-- `LD [%X],%A` (R105). -/
  | ldMemXA
  /-- `LD [%X],%B` (R105). -/
  | ldMemXB
  /-- `LD [%Y],%A` (R105). -/
  | ldMemYA
  /-- `LD [%Y],%B` (R105). -/
  | ldMemYB
  /-- `LD [%X]+,%A` (R106). -/
  | ldMemXIncA
  /-- `LD [%X]+,%B` (R106). -/
  | ldMemXIncB
  /-- `LD [%Y]+,%A` (R106). -/
  | ldMemYIncA
  /-- `LD [%Y]+,%B` (R106). -/
  | ldMemYIncB
  /-- `EX %A,%B` (R109). -/
  | exAB
  /-- `EX %A,[%X]` (R110). -/
  | exAMemX
  /-- `EX %A,[%Y]` (R110). -/
  | exAMemY
  /-- `EX %B,[%X]` (R110). -/
  | exBMemX
  /-- `EX %B,[%Y]` (R110). -/
  | exBMemY
  /-- `EX %A,[%X]+` (R111). -/
  | exAMemXInc
  /-- `EX %A,[%Y]+` (R111). -/
  | exAMemYInc
  /-- `EX %B,[%X]+` (R111). -/
  | exBMemXInc
  /-- `EX %B,[%Y]+` (R111). -/
  | exBMemYInc
  /-- `LD [%X],[%Y]` (R112). -/
  | ldMemXMemY
  /-- `LD [%Y],[%X]` (R112). -/
  | ldMemYMemX
  /-- `LD [%X],[%Y]+` (R113). -/
  | ldMemXMemYInc
  /-- `LD [%Y],[%X]+` (R113). -/
  | ldMemYMemXInc
  /-- `LD [%X]+,[%Y]` (R114). -/
  | ldMemXIncMemY
  /-- `LD [%Y]+,[%X]` (R114). -/
  | ldMemYIncMemX
  /-- `LD [%X]+,[%Y]+` (R115). -/
  | ldMemXIncMemYInc
  /-- `LD [%Y]+,[%X]+` (R115). -/
  | ldMemYIncMemXInc
  -- 4-bit arithmetic (spec/41_arithmetic.md): without an operand in the word
  /-- `ADD %A,%A` (R122). -/
  | addAA
  /-- `ADD %A,%B` (R122). -/
  | addAB
  /-- `ADD %B,%A` (R122). -/
  | addBA
  /-- `ADD %B,%B` (R122). -/
  | addBB
  /-- `ADD %A,[%X]` (R124). -/
  | addAMemX
  /-- `ADD %A,[%Y]` (R124). -/
  | addAMemY
  /-- `ADD %B,[%X]` (R124). -/
  | addBMemX
  /-- `ADD %B,[%Y]` (R124). -/
  | addBMemY
  /-- `ADD %A,[%X]+` (R125). -/
  | addAMemXInc
  /-- `ADD %A,[%Y]+` (R125). -/
  | addAMemYInc
  /-- `ADD %B,[%X]+` (R125). -/
  | addBMemXInc
  /-- `ADD %B,[%Y]+` (R125). -/
  | addBMemYInc
  /-- `ADD [%X],%A` (R126). -/
  | addMemXA
  /-- `ADD [%X],%B` (R126). -/
  | addMemXB
  /-- `ADD [%Y],%A` (R126). -/
  | addMemYA
  /-- `ADD [%Y],%B` (R126). -/
  | addMemYB
  /-- `ADD [%X]+,%A` (R127). -/
  | addMemXIncA
  /-- `ADD [%X]+,%B` (R127). -/
  | addMemXIncB
  /-- `ADD [%Y]+,%A` (R127). -/
  | addMemYIncA
  /-- `ADD [%Y]+,%B` (R127). -/
  | addMemYIncB
  /-- `ADC %A,%A` (R130). -/
  | adcAA
  /-- `ADC %A,%B` (R130). -/
  | adcAB
  /-- `ADC %B,%A` (R130). -/
  | adcBA
  /-- `ADC %B,%B` (R130). -/
  | adcBB
  /-- `ADC %A,[%X]` (R132). -/
  | adcAMemX
  /-- `ADC %A,[%Y]` (R132). -/
  | adcAMemY
  /-- `ADC %B,[%X]` (R132). -/
  | adcBMemX
  /-- `ADC %B,[%Y]` (R132). -/
  | adcBMemY
  /-- `ADC %A,[%X]+` (R133). -/
  | adcAMemXInc
  /-- `ADC %A,[%Y]+` (R133). -/
  | adcAMemYInc
  /-- `ADC %B,[%X]+` (R133). -/
  | adcBMemXInc
  /-- `ADC %B,[%Y]+` (R133). -/
  | adcBMemYInc
  /-- `ADC [%X],%A` (R134). -/
  | adcMemXA
  /-- `ADC [%X],%B` (R134). -/
  | adcMemXB
  /-- `ADC [%Y],%A` (R134). -/
  | adcMemYA
  /-- `ADC [%Y],%B` (R134). -/
  | adcMemYB
  /-- `ADC [%X]+,%A` (R135). -/
  | adcMemXIncA
  /-- `ADC [%X]+,%B` (R135). -/
  | adcMemXIncB
  /-- `ADC [%Y]+,%A` (R135). -/
  | adcMemYIncA
  /-- `ADC [%Y]+,%B` (R135). -/
  | adcMemYIncB
  /-- `SUB %A,%A` (R138). -/
  | subAA
  /-- `SUB %A,%B` (R138). -/
  | subAB
  /-- `SUB %B,%A` (R138). -/
  | subBA
  /-- `SUB %B,%B` (R138). -/
  | subBB
  /-- `SUB %A,[%X]` (R140). -/
  | subAMemX
  /-- `SUB %A,[%Y]` (R140). -/
  | subAMemY
  /-- `SUB %B,[%X]` (R140). -/
  | subBMemX
  /-- `SUB %B,[%Y]` (R140). -/
  | subBMemY
  /-- `SUB %A,[%X]+` (R141). -/
  | subAMemXInc
  /-- `SUB %A,[%Y]+` (R141). -/
  | subAMemYInc
  /-- `SUB %B,[%X]+` (R141). -/
  | subBMemXInc
  /-- `SUB %B,[%Y]+` (R141). -/
  | subBMemYInc
  /-- `SUB [%X],%A` (R142). -/
  | subMemXA
  /-- `SUB [%X],%B` (R142). -/
  | subMemXB
  /-- `SUB [%Y],%A` (R142). -/
  | subMemYA
  /-- `SUB [%Y],%B` (R142). -/
  | subMemYB
  /-- `SUB [%X]+,%A` (R143). -/
  | subMemXIncA
  /-- `SUB [%X]+,%B` (R143). -/
  | subMemXIncB
  /-- `SUB [%Y]+,%A` (R143). -/
  | subMemYIncA
  /-- `SUB [%Y]+,%B` (R143). -/
  | subMemYIncB
  /-- `SBC %A,%A` (R146). -/
  | sbcAA
  /-- `SBC %A,%B` (R146). -/
  | sbcAB
  /-- `SBC %B,%A` (R146). -/
  | sbcBA
  /-- `SBC %B,%B` (R146). -/
  | sbcBB
  /-- `SBC %A,[%X]` (R148). -/
  | sbcAMemX
  /-- `SBC %A,[%Y]` (R148). -/
  | sbcAMemY
  /-- `SBC %B,[%X]` (R148). -/
  | sbcBMemX
  /-- `SBC %B,[%Y]` (R148). -/
  | sbcBMemY
  /-- `SBC %A,[%X]+` (R149). -/
  | sbcAMemXInc
  /-- `SBC %A,[%Y]+` (R149). -/
  | sbcAMemYInc
  /-- `SBC %B,[%X]+` (R149). -/
  | sbcBMemXInc
  /-- `SBC %B,[%Y]+` (R149). -/
  | sbcBMemYInc
  /-- `SBC [%X],%A` (R150). -/
  | sbcMemXA
  /-- `SBC [%X],%B` (R150). -/
  | sbcMemXB
  /-- `SBC [%Y],%A` (R150). -/
  | sbcMemYA
  /-- `SBC [%Y],%B` (R150). -/
  | sbcMemYB
  /-- `SBC [%X]+,%A` (R151). -/
  | sbcMemXIncA
  /-- `SBC [%X]+,%B` (R151). -/
  | sbcMemXIncB
  /-- `SBC [%Y]+,%A` (R151). -/
  | sbcMemYIncA
  /-- `SBC [%Y]+,%B` (R151). -/
  | sbcMemYIncB
  /-- `CMP %A,%A` (R154). -/
  | cmpAA
  /-- `CMP %A,%B` (R154). -/
  | cmpAB
  /-- `CMP %B,%A` (R154). -/
  | cmpBA
  /-- `CMP %B,%B` (R154). -/
  | cmpBB
  /-- `CMP %A,[%X]` (R156). -/
  | cmpAMemX
  /-- `CMP %A,[%Y]` (R156). -/
  | cmpAMemY
  /-- `CMP %B,[%X]` (R156). -/
  | cmpBMemX
  /-- `CMP %B,[%Y]` (R156). -/
  | cmpBMemY
  /-- `CMP %A,[%X]+` (R157). -/
  | cmpAMemXInc
  /-- `CMP %A,[%Y]+` (R157). -/
  | cmpAMemYInc
  /-- `CMP %B,[%X]+` (R157). -/
  | cmpBMemXInc
  /-- `CMP %B,[%Y]+` (R157). -/
  | cmpBMemYInc
  /-- `CMP [%X],%A` (R158). -/
  | cmpMemXA
  /-- `CMP [%X],%B` (R158). -/
  | cmpMemXB
  /-- `CMP [%Y],%A` (R158). -/
  | cmpMemYA
  /-- `CMP [%Y],%B` (R158). -/
  | cmpMemYB
  /-- `CMP [%X]+,%A` (R159). -/
  | cmpMemXIncA
  /-- `CMP [%X]+,%B` (R159). -/
  | cmpMemXIncB
  /-- `CMP [%Y]+,%A` (R159). -/
  | cmpMemYIncA
  /-- `CMP [%Y]+,%B` (R159). -/
  | cmpMemYIncB
  -- logic and bit operations (spec/43_logic.md): without an operand in the word
  /-- `AND %A,%A` (R212). -/
  | andAA
  /-- `AND %A,%B` (R212). -/
  | andAB
  /-- `AND %B,%A` (R212). -/
  | andBA
  /-- `AND %B,%B` (R212). -/
  | andBB
  /-- `AND %A,[%X]` (R214). -/
  | andAMemX
  /-- `AND %A,[%Y]` (R214). -/
  | andAMemY
  /-- `AND %B,[%X]` (R214). -/
  | andBMemX
  /-- `AND %B,[%Y]` (R214). -/
  | andBMemY
  /-- `AND %A,[%X]+` (R215). -/
  | andAMemXInc
  /-- `AND %A,[%Y]+` (R215). -/
  | andAMemYInc
  /-- `AND %B,[%X]+` (R215). -/
  | andBMemXInc
  /-- `AND %B,[%Y]+` (R215). -/
  | andBMemYInc
  /-- `AND [%X],%A` (R216). -/
  | andMemXA
  /-- `AND [%X],%B` (R216). -/
  | andMemXB
  /-- `AND [%Y],%A` (R216). -/
  | andMemYA
  /-- `AND [%Y],%B` (R216). -/
  | andMemYB
  /-- `AND [%X]+,%A` (R217). -/
  | andMemXIncA
  /-- `AND [%X]+,%B` (R217). -/
  | andMemXIncB
  /-- `AND [%Y]+,%A` (R217). -/
  | andMemYIncA
  /-- `AND [%Y]+,%B` (R217). -/
  | andMemYIncB
  /-- `OR %A,%A` (R221). -/
  | orAA
  /-- `OR %A,%B` (R221). -/
  | orAB
  /-- `OR %B,%A` (R221). -/
  | orBA
  /-- `OR %B,%B` (R221). -/
  | orBB
  /-- `OR %A,[%X]` (R223). -/
  | orAMemX
  /-- `OR %A,[%Y]` (R223). -/
  | orAMemY
  /-- `OR %B,[%X]` (R223). -/
  | orBMemX
  /-- `OR %B,[%Y]` (R223). -/
  | orBMemY
  /-- `OR %A,[%X]+` (R224). -/
  | orAMemXInc
  /-- `OR %A,[%Y]+` (R224). -/
  | orAMemYInc
  /-- `OR %B,[%X]+` (R224). -/
  | orBMemXInc
  /-- `OR %B,[%Y]+` (R224). -/
  | orBMemYInc
  /-- `OR [%X],%A` (R225). -/
  | orMemXA
  /-- `OR [%X],%B` (R225). -/
  | orMemXB
  /-- `OR [%Y],%A` (R225). -/
  | orMemYA
  /-- `OR [%Y],%B` (R225). -/
  | orMemYB
  /-- `OR [%X]+,%A` (R226). -/
  | orMemXIncA
  /-- `OR [%X]+,%B` (R226). -/
  | orMemXIncB
  /-- `OR [%Y]+,%A` (R226). -/
  | orMemYIncA
  /-- `OR [%Y]+,%B` (R226). -/
  | orMemYIncB
  /-- `XOR %A,%A` (R230). -/
  | xorAA
  /-- `XOR %A,%B` (R230). -/
  | xorAB
  /-- `XOR %B,%A` (R230). -/
  | xorBA
  /-- `XOR %B,%B` (R230). -/
  | xorBB
  /-- `XOR %A,[%X]` (R232). -/
  | xorAMemX
  /-- `XOR %A,[%Y]` (R232). -/
  | xorAMemY
  /-- `XOR %B,[%X]` (R232). -/
  | xorBMemX
  /-- `XOR %B,[%Y]` (R232). -/
  | xorBMemY
  /-- `XOR %A,[%X]+` (R233). -/
  | xorAMemXInc
  /-- `XOR %A,[%Y]+` (R233). -/
  | xorAMemYInc
  /-- `XOR %B,[%X]+` (R233). -/
  | xorBMemXInc
  /-- `XOR %B,[%Y]+` (R233). -/
  | xorBMemYInc
  /-- `XOR [%X],%A` (R234). -/
  | xorMemXA
  /-- `XOR [%X],%B` (R234). -/
  | xorMemXB
  /-- `XOR [%Y],%A` (R234). -/
  | xorMemYA
  /-- `XOR [%Y],%B` (R234). -/
  | xorMemYB
  /-- `XOR [%X]+,%A` (R235). -/
  | xorMemXIncA
  /-- `XOR [%X]+,%B` (R235). -/
  | xorMemXIncB
  /-- `XOR [%Y]+,%A` (R235). -/
  | xorMemYIncA
  /-- `XOR [%Y]+,%B` (R235). -/
  | xorMemYIncB
  /-- `BIT %A,%A` (R239). -/
  | bitAA
  /-- `BIT %A,%B` (R239). -/
  | bitAB
  /-- `BIT %B,%A` (R239). -/
  | bitBA
  /-- `BIT %B,%B` (R239). -/
  | bitBB
  /-- `BIT %A,[%X]` (R241). -/
  | bitAMemX
  /-- `BIT %A,[%Y]` (R241). -/
  | bitAMemY
  /-- `BIT %B,[%X]` (R241). -/
  | bitBMemX
  /-- `BIT %B,[%Y]` (R241). -/
  | bitBMemY
  /-- `BIT %A,[%X]+` (R242). -/
  | bitAMemXInc
  /-- `BIT %A,[%Y]+` (R242). -/
  | bitAMemYInc
  /-- `BIT %B,[%X]+` (R242). -/
  | bitBMemXInc
  /-- `BIT %B,[%Y]+` (R242). -/
  | bitBMemYInc
  /-- `BIT [%X],%A` (R243). -/
  | bitMemXA
  /-- `BIT [%X],%B` (R243). -/
  | bitMemXB
  /-- `BIT [%Y],%A` (R243). -/
  | bitMemYA
  /-- `BIT [%Y],%B` (R243). -/
  | bitMemYB
  /-- `BIT [%X]+,%A` (R244). -/
  | bitMemXIncA
  /-- `BIT [%X]+,%B` (R244). -/
  | bitMemXIncB
  /-- `BIT [%Y]+,%A` (R244). -/
  | bitMemYIncA
  /-- `BIT [%Y]+,%B` (R244). -/
  | bitMemYIncB
  -- shifts and rotates (spec/44_shift_rotate.md): without an operand in the word
  /-- `SLL %A` (R251). -/
  | sllA
  /-- `SLL %B` (R251). -/
  | sllB
  /-- `SLL [%X]` (R252). -/
  | sllMemX
  /-- `SLL [%Y]` (R252). -/
  | sllMemY
  /-- `SLL [%X]+` (R253). -/
  | sllMemXInc
  /-- `SLL [%Y]+` (R253). -/
  | sllMemYInc
  /-- `SRL %A` (R254). -/
  | srlA
  /-- `SRL %B` (R254). -/
  | srlB
  /-- `SRL [%X]` (R255). -/
  | srlMemX
  /-- `SRL [%Y]` (R255). -/
  | srlMemY
  /-- `SRL [%X]+` (R256). -/
  | srlMemXInc
  /-- `SRL [%Y]+` (R256). -/
  | srlMemYInc
  /-- `RL %A` (R257). -/
  | rlA
  /-- `RL %B` (R257). -/
  | rlB
  /-- `RL [%X]` (R258). -/
  | rlMemX
  /-- `RL [%Y]` (R258). -/
  | rlMemY
  /-- `RL [%X]+` (R259). -/
  | rlMemXInc
  /-- `RL [%Y]+` (R259). -/
  | rlMemYInc
  /-- `RR %A` (R260). -/
  | rrA
  /-- `RR %B` (R260). -/
  | rrB
  /-- `RR [%X]` (R261). -/
  | rrMemX
  /-- `RR [%Y]` (R261). -/
  | rrMemY
  /-- `RR [%X]+` (R262). -/
  | rrMemXInc
  /-- `RR [%Y]+` (R262). -/
  | rrMemYInc
  -- 8-bit and 16-bit transfer and arithmetic (spec/45_transfer_8_16bit.md): without an operand in the word
  /-- `LDB %BA,[%X]+` (R272). -/
  | ldbBAMemXInc
  /-- `LDB %BA,[%Y]+` (R272). -/
  | ldbBAMemYInc
  /-- `LDB %BA,%EXT` (R273). -/
  | ldbBAEXT
  /-- `LDB %BA,%XL` (R274). -/
  | ldbBAXL
  /-- `LDB %BA,%XH` (R274). -/
  | ldbBAXH
  /-- `LDB %BA,%YL` (R274). -/
  | ldbBAYL
  /-- `LDB %BA,%YH` (R274). -/
  | ldbBAYH
  /-- `LDB %BA,%SP1` (R275). -/
  | ldbBASP1
  /-- `LDB %BA,%SP2` (R275). -/
  | ldbBASP2
  /-- `LDB [%X]+,%BA` (R276). -/
  | ldbMemXIncBA
  /-- `LDB [%Y]+,%BA` (R276). -/
  | ldbMemYIncBA
  /-- `LDB %EXT,%BA` (R279). -/
  | ldbEXTBA
  /-- `LDB %XL,%BA` (R281). -/
  | ldbXLBA
  /-- `LDB %XH,%BA` (R281). -/
  | ldbXHBA
  /-- `LDB %YL,%BA` (R281). -/
  | ldbYLBA
  /-- `LDB %YH,%BA` (R281). -/
  | ldbYHBA
  /-- `LDB %SP1,%BA` (R282). -/
  | ldbSP1BA
  /-- `LDB %SP2,%BA` (R282). -/
  | ldbSP2BA
  /-- `ADD %X,%BA` (R283). -/
  | addXBA
  /-- `ADD %Y,%BA` (R283). -/
  | addYBA
  /-- `INC %SP1` (R286). -/
  | incSP1
  /-- `INC %SP2` (R286). -/
  | incSP2
  /-- `DEC %SP1` (R287). -/
  | decSP1
  /-- `DEC %SP2` (R287). -/
  | decSP2
  -- stack operation (spec/46_stack.md): without an operand in the word
  /-- `PUSH %A` (R291). -/
  | pushA
  /-- `PUSH %B` (R291). -/
  | pushB
  /-- `PUSH %F` (R291). -/
  | pushF
  /-- `POP %A` (R292). -/
  | popA
  /-- `POP %B` (R292). -/
  | popB
  /-- `POP %F` (R293). -/
  | popF
  /-- `PUSH %X` (R294). -/
  | pushX
  /-- `PUSH %Y` (R294). -/
  | pushY
  /-- `POP %X` (R295). -/
  | popX
  /-- `POP %Y` (R295). -/
  | popY
  -- branch control (spec/47_branch.md): without an operand in the word
  /-- `JR %A` (R383). -/
  | jrA
  /-- `JR %BA` (R384). -/
  | jrBA
  /-- `JP %Y` (R390). -/
  | jpY
  /-- `RET` (R394). -/
  | ret
  /-- `RETS` (R395). -/
  | rets
  /-- `RETI` (R397). -/
  | reti
  -- system control (spec/48_system.md): without an operand in the word
  /-- `NOP` (R401). -/
  | nop
  /-- `HALT` (R402). -/
  | halt
  /-- `SLP` (R403). -/
  | slp
deriving DecidableEq, Repr

end Sys2Proof
end

