-- ==== Sys2Proof/WellFormed.lean ====
section
/-! DEFINITION. Which terms of Instr are instructions the assembler accepts. Every operand but a radix has exactly the width
its type gives it; a radix is a number from 1 to 16 (spec/42_radix_arithmetic.md R182). -/

namespace Sys2Proof

/-- A radix `n4` is 1 to 16 (R182: "n4 should be specified with a value from 1 to 16"). -/
def radixOk (n : Nat) : Bool := decide (1 ≤ n) && decide (n ≤ 16)

/-- The instruction is well formed: a radix is in range; every other form is well formed as it stands. -/
def Instr.wellFormed (i : Instr) : Bool :=
  match i with
  | .adcBAN4 n => radixOk n
  | .adcBMemXN4 n => radixOk n
  | .adcBMemYN4 n => radixOk n
  | .adcMemXBN4 n => radixOk n
  | .adcMemYBN4 n => radixOk n
  | .adcBMemXIncN4 n => radixOk n
  | .adcBMemYIncN4 n => radixOk n
  | .adcMemXIncBN4 n => radixOk n
  | .adcMemYIncBN4 n => radixOk n
  | .adcMemXZeroN4 n => radixOk n
  | .adcMemYZeroN4 n => radixOk n
  | .adcMemXIncZeroN4 n => radixOk n
  | .adcMemYIncZeroN4 n => radixOk n
  | .decMemXN4 n => radixOk n
  | .decMemYN4 n => radixOk n
  | .decMemXIncN4 n => radixOk n
  | .decMemYIncN4 n => radixOk n
  | .incMemXN4 n => radixOk n
  | .incMemYN4 n => radixOk n
  | .incMemXIncN4 n => radixOk n
  | .incMemYIncN4 n => radixOk n
  | .sbcBAN4 n => radixOk n
  | .sbcBMemXN4 n => radixOk n
  | .sbcBMemYN4 n => radixOk n
  | .sbcBMemXIncN4 n => radixOk n
  | .sbcBMemYIncN4 n => radixOk n
  | .sbcMemXBN4 n => radixOk n
  | .sbcMemYBN4 n => radixOk n
  | .sbcMemXIncBN4 n => radixOk n
  | .sbcMemYIncBN4 n => radixOk n
  | .sbcMemXZeroN4 n => radixOk n
  | .sbcMemYZeroN4 n => radixOk n
  | .sbcMemXIncZeroN4 n => radixOk n
  | .sbcMemYIncZeroN4 n => radixOk n
  | .adcAA | .adcAB | .adcBA | .adcBB | .adcAImm4 _ | .adcBImm4 _ | .adcAMemX | .adcAMemY | .adcBMemX | .adcBMemY
    | .adcAMemXInc | .adcAMemYInc | .adcBMemXInc | .adcBMemYInc | .adcMemXA | .adcMemXB | .adcMemYA | .adcMemYB
    | .adcMemXIncA | .adcMemXIncB | .adcMemYIncA | .adcMemYIncB | .adcMemXImm4 _ | .adcMemYImm4 _ | .adcMemXIncImm4 _
    | .adcMemYIncImm4 _ | .addAA | .addAB | .addBA | .addBB | .addAImm4 _ | .addBImm4 _ | .addAMemX | .addAMemY
    | .addBMemX | .addBMemY | .addAMemXInc | .addAMemYInc | .addBMemXInc | .addBMemYInc | .addMemXA | .addMemXB
    | .addMemYA | .addMemYB | .addMemXIncA | .addMemXIncB | .addMemYIncA | .addMemYIncB | .addMemXImm4 _
    | .addMemYImm4 _ | .addMemXIncImm4 _ | .addMemYIncImm4 _ | .addXBA | .addYBA | .addXSign8 _ | .addYSign8 _
    | .andAA | .andAB | .andBA | .andBB | .andAImm4 _ | .andBImm4 _ | .andFImm4 _ | .andAMemXInc | .andAMemYInc
    | .andBMemXInc | .andBMemYInc | .andAMemX | .andAMemY | .andBMemX | .andBMemY | .andMemXA | .andMemXB | .andMemYA
    | .andMemYB | .andMemXIncA | .andMemXIncB | .andMemYIncA | .andMemYIncB | .andMemXImm4 _ | .andMemYImm4 _
    | .andMemXIncImm4 _ | .andMemYIncImm4 _ | .bitAA | .bitAB | .bitBA | .bitBB | .bitAImm4 _ | .bitBImm4 _
    | .bitAMemXInc | .bitAMemYInc | .bitBMemXInc | .bitBMemYInc | .bitAMemX | .bitAMemY | .bitBMemX | .bitBMemY
    | .bitMemXA | .bitMemXB | .bitMemYA | .bitMemYB | .bitMemXIncA | .bitMemXIncB | .bitMemYIncA | .bitMemYIncB
    | .bitMemXIncImm4 _ | .bitMemYIncImm4 _ | .bitMemXImm4 _ | .bitMemYImm4 _ | .calrMemAddr6 _ | .calrSign8 _
    | .calzImm8 _ | .clrMem00Addr6Imm2 _ _ | .clrMemFFAddr6Imm2 _ _ | .cmpAImm4 _ | .cmpBImm4 _ | .cmpAA | .cmpAB
    | .cmpBA | .cmpBB | .cmpAMemX | .cmpAMemY | .cmpBMemX | .cmpBMemY | .cmpAMemXInc | .cmpAMemYInc | .cmpBMemXInc
    | .cmpBMemYInc | .cmpMemXIncA | .cmpMemXIncB | .cmpMemYIncA | .cmpMemYIncB | .cmpMemXA | .cmpMemXB | .cmpMemYA
    | .cmpMemYB | .cmpMemXIncImm4 _ | .cmpMemYIncImm4 _ | .cmpMemXImm4 _ | .cmpMemYImm4 _ | .cmpXImm8 _ | .cmpYImm8 _
    | .decMemAddr6 _ | .exAB | .decSP1 | .decSP2 | .exAMemX | .exAMemY | .exBMemX | .exBMemY | .exAMemXInc
    | .exAMemYInc | .exBMemXInc | .exBMemYInc | .halt | .incMemAddr6 _ | .intImm6 _ | .incSP1 | .incSP2 | .jpY | .jrA
    | .jrBA | .jrMemAddr6 _ | .jrSign8 _ | .jrcSign8 _ | .jrncSign8 _ | .jrnzSign8 _ | .jrzSign8 _ | .ldAA | .ldAB
    | .ldAF | .ldBA | .ldBB | .ldFA | .ldAImm4 _ | .ldBImm4 _ | .ldFImm4 _ | .ldAMemX | .ldAMemY | .ldBMemX | .ldBMemY
    | .ldAMemXInc | .ldAMemYInc | .ldBMemXInc | .ldBMemYInc | .ldMemXA | .ldMemXB | .ldMemYA | .ldMemYB | .ldMemXIncA
    | .ldMemXIncB | .ldMemYIncA | .ldMemYIncB | .ldMemXImm4 _ | .ldMemYImm4 _ | .ldMemXIncImm4 _ | .ldMemYIncImm4 _
    | .ldMemXMemY | .ldMemYMemX | .ldMemXMemYInc | .ldMemYMemXInc | .ldMemXIncMemY | .ldMemYIncMemX
    | .ldMemXIncMemYInc | .ldMemYIncMemXInc | .ldbBAImm8 _ | .ldbBAMemXInc | .ldbBAMemYInc | .ldbBAEXT | .ldbBAXL
    | .ldbBAXH | .ldbBAYL | .ldbBAYH | .ldbBASP1 | .ldbBASP2 | .ldbMemXIncBA | .ldbMemYIncBA | .ldbMemXIncImm8 _
    | .ldbEXTImm8 _ | .ldbEXTBA | .ldbXLImm8 _ | .ldbYLImm8 _ | .ldbXLBA | .ldbXHBA | .ldbYLBA | .ldbYHBA | .ldbSP1BA
    | .ldbSP2BA | .nop | .orAA | .orAB | .orBA | .orBB | .orAImm4 _ | .orBImm4 _ | .orFImm4 _ | .orAMemX | .orAMemY
    | .orBMemX | .orBMemY | .orAMemXInc | .orAMemYInc | .orBMemXInc | .orBMemYInc | .orMemXA | .orMemXB | .orMemYA
    | .orMemYB | .orMemXIncA | .orMemXIncB | .orMemYIncA | .orMemYIncB | .orMemXImm4 _ | .orMemYImm4 _
    | .orMemXIncImm4 _ | .orMemYIncImm4 _ | .popA | .popB | .popF | .pushA | .pushB | .pushF | .popX | .popY | .pushX
    | .pushY | .ret | .retdImm8 _ | .reti | .rlA | .rlB | .rets | .rlMemX | .rlMemY | .rlMemXInc | .rlMemYInc | .rrA
    | .rrB | .rrMemX | .rrMemY | .rrMemXInc | .rrMemYInc | .sbcAA | .sbcAB | .sbcBA | .sbcBB | .sbcAImm4 _
    | .sbcBImm4 _ | .sbcAMemX | .sbcAMemY | .sbcBMemX | .sbcBMemY | .sbcAMemXInc | .sbcAMemYInc | .sbcBMemXInc
    | .sbcBMemYInc | .sbcMemXA | .sbcMemXB | .sbcMemYA | .sbcMemYB | .sbcMemXIncA | .sbcMemXIncB | .sbcMemYIncA
    | .sbcMemYIncB | .sbcMemXImm4 _ | .sbcMemYImm4 _ | .sbcMemXIncImm4 _ | .sbcMemYIncImm4 _ | .setMem00Addr6Imm2 _ _
    | .setMemFFAddr6Imm2 _ _ | .sllA | .sllB | .sllMemXInc | .sllMemYInc | .sllMemX | .sllMemY | .slp | .srlA | .srlB
    | .srlMemX | .srlMemY | .srlMemXInc | .srlMemYInc | .subAA | .subAB | .subBA | .subBB | .subAImm4 _ | .subBImm4 _
    | .subAMemXInc | .subAMemYInc | .subBMemXInc | .subBMemYInc | .subAMemX | .subAMemY | .subBMemX | .subBMemY
    | .subMemXIncA | .subMemXIncB | .subMemYIncA | .subMemYIncB | .subMemXA | .subMemXB | .subMemYA | .subMemYB
    | .subMemXImm4 _ | .subMemYImm4 _ | .subMemXIncImm4 _ | .subMemYIncImm4 _ | .xorAA | .xorAB | .xorBA | .xorBB
    | .tstMem00Addr6Imm2 _ _ | .tstMemFFAddr6Imm2 _ _ | .xorAImm4 _ | .xorBImm4 _ | .xorFImm4 _ | .xorAMemX
    | .xorAMemY | .xorBMemX | .xorBMemY | .xorAMemXInc | .xorAMemYInc | .xorBMemXInc | .xorBMemYInc | .xorMemXA
    | .xorMemXB | .xorMemYA | .xorMemYB | .xorMemXIncA | .xorMemXIncB | .xorMemYIncA | .xorMemYIncB | .xorMemXImm4 _
    | .xorMemYImm4 _ | .xorMemXIncImm4 _ | .xorMemYIncImm4 _ => true

end Sys2Proof
end

