-- ==== Sys2Proof/Decode.lean ====
section
/-! DEFINITION. Reading and writing instruction words, from the encodings of spec/30_encoding.md (R70 to R86) and
spec/opcode_table.json. `decode` is total on 13-bit words and refuses exactly the reserved ones; `encode` writes the word the
assembler emits (every don't-care bit 0, R74). -/

namespace Sys2Proof

/-- The radix stored as `16 - n4` (ADC, INC: R78). -/
def radixOfComplement (f : Nibble) : Nat := 16 - f.toNat

/-- The radix stored as it is, 16 as 0 (SBC, DEC: R78). -/
def radixOfField (f : Nibble) : Nat := if f = 0#4 then 16 else f.toNat

/-- The field of an ADC or INC radix, `[10H-n4]` (R78). -/
def complementOfRadix (n : Nat) : Nibble := BitVec.ofNat 4 (16 - n)

/-- The field of an SBC or DEC radix, `n4` modulo 16 (R78). -/
def fieldOfRadix (n : Nat) : Nibble := BitVec.ofNat 4 n

/-- Words whose high digits are 10E: told apart by bits 3 to 0 (R81 to R85). -/
def decode10E (w : PWord) : Option Instr :=
  match w.extractLsb' 0 4 with
  | 0x0#4 => some .sllMemX
  | 0x1#4 => some .sllMemXInc
  | 0x2#4 => some .sllMemY
  | 0x3#4 => some .sllMemYInc
  | 0x4#4 => some .srlMemX
  | 0x5#4 => some .srlMemXInc
  | 0x6#4 => some .srlMemY
  | 0x7#4 => some .srlMemYInc
  | 0x8#4 => some .rlMemX
  | 0x9#4 => some .rlMemXInc
  | 0xA#4 => some .rlMemY
  | 0xB#4 => some .rlMemYInc
  | 0xC#4 => some .rrMemX
  | 0xD#4 => some .rrMemXInc
  | 0xE#4 => some .rrMemY
  | _ => some .rrMemYInc

/-- Words whose high digits are 10F: told apart by bits 3 to 0 (R81 to R85). -/
def decode10F (w : PWord) : Option Instr :=
  match w.extractLsb' 0 4 with
  | 0x0#4 => some .sllA
  | 0x1#4 => some .srlA
  | 0x2#4 => some .rlA
  | 0x3#4 => some .rrA
  | 0x4#4 => some .sllB
  | 0x5#4 => some .srlB
  | 0x6#4 => some .rlB
  | 0x7#4 => some .rrB
  | 0x8#4 => some .exAMemX
  | 0x9#4 => some .exAMemXInc
  | 0xA#4 => some .exAMemY
  | 0xB#4 => some .exAMemYInc
  | 0xC#4 => some .exBMemX
  | 0xD#4 => some .exBMemXInc
  | 0xE#4 => some .exBMemY
  | _ => some .exBMemYInc

/-- Words whose high digits are 10: told apart by bits 7 to 4 (R81 to R85). -/
def decode10 (w : PWord) : Option Instr :=
  match w.extractLsb' 4 4 with
  | 0x0#4 => some (.decMemAddr6 (w.extractLsb' 0 6))
  | 0x1#4 => some (.decMemAddr6 (w.extractLsb' 0 6))
  | 0x2#4 => some (.decMemAddr6 (w.extractLsb' 0 6))
  | 0x3#4 => some (.decMemAddr6 (w.extractLsb' 0 6))
  | 0x4#4 => some (.incMemAddr6 (w.extractLsb' 0 6))
  | 0x5#4 => some (.incMemAddr6 (w.extractLsb' 0 6))
  | 0x6#4 => some (.incMemAddr6 (w.extractLsb' 0 6))
  | 0x7#4 => some (.incMemAddr6 (w.extractLsb' 0 6))
  | 0x8#4 => some (.andFImm4 (w.extractLsb' 0 4))
  | 0x9#4 => some (.orFImm4 (w.extractLsb' 0 4))
  | 0xA#4 => some (.xorFImm4 (w.extractLsb' 0 4))
  | 0xB#4 => some (.ldFImm4 (w.extractLsb' 0 4))
  | 0xC#4 => some (.sbcBAN4 (radixOfField (w.extractLsb' 0 4)))
  | 0xD#4 => some (.adcBAN4 (radixOfComplement (w.extractLsb' 0 4)))
  | 0xE#4 => decode10E w
  | _ => decode10F w

/-- Words whose high digits are 186: told apart by bits 3 to 0 (R81 to R85). -/
def decode186 (w : PWord) : Option Instr :=
  match w.extractLsb' 0 4 with
  | 0x0#4 => some .subAMemX
  | 0x1#4 => some .subAMemXInc
  | 0x2#4 => some .subAMemY
  | 0x3#4 => some .subAMemYInc
  | 0x4#4 => some .subBMemX
  | 0x5#4 => some .subBMemXInc
  | 0x6#4 => some .subBMemY
  | 0x7#4 => some .subBMemYInc
  | 0x8#4 => some .subMemXA
  | 0x9#4 => some .subMemXIncA
  | 0xA#4 => some .subMemYA
  | 0xB#4 => some .subMemYIncA
  | 0xC#4 => some .subMemXB
  | 0xD#4 => some .subMemXIncB
  | 0xE#4 => some .subMemYB
  | _ => some .subMemYIncB

/-- Words whose high digits are 187: told apart by bits 3 to 0 (R81 to R85). -/
def decode187 (w : PWord) : Option Instr :=
  match w.extractLsb' 0 4 with
  | 0x0#4 => some .subAA
  | 0x1#4 => some .subAA
  | 0x2#4 => some .subAB
  | 0x3#4 => some .subAB
  | 0x4#4 => some .subBA
  | 0x5#4 => some .subBA
  | 0x6#4 => some .subBB
  | 0x7#4 => some .subBB
  | _ => none

/-- Words whose high digits are 18E: told apart by bits 3 to 0 (R81 to R85). -/
def decode18E (w : PWord) : Option Instr :=
  match w.extractLsb' 0 4 with
  | 0x0#4 => some .sbcAMemX
  | 0x1#4 => some .sbcAMemXInc
  | 0x2#4 => some .sbcAMemY
  | 0x3#4 => some .sbcAMemYInc
  | 0x4#4 => some .sbcBMemX
  | 0x5#4 => some .sbcBMemXInc
  | 0x6#4 => some .sbcBMemY
  | 0x7#4 => some .sbcBMemYInc
  | 0x8#4 => some .sbcMemXA
  | 0x9#4 => some .sbcMemXIncA
  | 0xA#4 => some .sbcMemYA
  | 0xB#4 => some .sbcMemYIncA
  | 0xC#4 => some .sbcMemXB
  | 0xD#4 => some .sbcMemXIncB
  | 0xE#4 => some .sbcMemYB
  | _ => some .sbcMemYIncB

/-- Words whose high digits are 18F: told apart by bits 3 to 0 (R81 to R85). -/
def decode18F (w : PWord) : Option Instr :=
  match w.extractLsb' 0 4 with
  | 0x0#4 => some .sbcAA
  | 0x1#4 => some .sbcAA
  | 0x2#4 => some .sbcAB
  | 0x3#4 => some .sbcAB
  | 0x4#4 => some .sbcBA
  | 0x5#4 => some .sbcBA
  | 0x6#4 => some .sbcBB
  | 0x7#4 => some .sbcBB
  | _ => none

/-- Words whose high digits are 18: told apart by bits 7 to 4 (R81 to R85). -/
def decode18 (w : PWord) : Option Instr :=
  match w.extractLsb' 4 4 with
  | 0x0#4 => some (.subMemXImm4 (w.extractLsb' 0 4))
  | 0x1#4 => some (.subMemXIncImm4 (w.extractLsb' 0 4))
  | 0x2#4 => some (.subMemYImm4 (w.extractLsb' 0 4))
  | 0x3#4 => some (.subMemYIncImm4 (w.extractLsb' 0 4))
  | 0x4#4 => some (.subAImm4 (w.extractLsb' 0 4))
  | 0x5#4 => some (.subBImm4 (w.extractLsb' 0 4))
  | 0x6#4 => decode186 w
  | 0x7#4 => decode187 w
  | 0x8#4 => some (.sbcMemXImm4 (w.extractLsb' 0 4))
  | 0x9#4 => some (.sbcMemXIncImm4 (w.extractLsb' 0 4))
  | 0xA#4 => some (.sbcMemYImm4 (w.extractLsb' 0 4))
  | 0xB#4 => some (.sbcMemYIncImm4 (w.extractLsb' 0 4))
  | 0xC#4 => some (.sbcAImm4 (w.extractLsb' 0 4))
  | 0xD#4 => some (.sbcBImm4 (w.extractLsb' 0 4))
  | 0xE#4 => decode18E w
  | _ => decode18F w

/-- Words whose high digits are 196: told apart by bits 3 to 0 (R81 to R85). -/
def decode196 (w : PWord) : Option Instr :=
  match w.extractLsb' 0 4 with
  | 0x0#4 => some .addAMemX
  | 0x1#4 => some .addAMemXInc
  | 0x2#4 => some .addAMemY
  | 0x3#4 => some .addAMemYInc
  | 0x4#4 => some .addBMemX
  | 0x5#4 => some .addBMemXInc
  | 0x6#4 => some .addBMemY
  | 0x7#4 => some .addBMemYInc
  | 0x8#4 => some .addMemXA
  | 0x9#4 => some .addMemXIncA
  | 0xA#4 => some .addMemYA
  | 0xB#4 => some .addMemYIncA
  | 0xC#4 => some .addMemXB
  | 0xD#4 => some .addMemXIncB
  | 0xE#4 => some .addMemYB
  | _ => some .addMemYIncB

/-- Words whose high digits are 197: told apart by bits 3 to 0 (R81 to R85). -/
def decode197 (w : PWord) : Option Instr :=
  match w.extractLsb' 0 4 with
  | 0x0#4 => some .addAA
  | 0x1#4 => some .addAA
  | 0x2#4 => some .addAB
  | 0x3#4 => some .addAB
  | 0x4#4 => some .addBA
  | 0x5#4 => some .addBA
  | 0x6#4 => some .addBB
  | 0x7#4 => some .addBB
  | _ => none

/-- Words whose high digits are 19E: told apart by bits 3 to 0 (R81 to R85). -/
def decode19E (w : PWord) : Option Instr :=
  match w.extractLsb' 0 4 with
  | 0x0#4 => some .adcAMemX
  | 0x1#4 => some .adcAMemXInc
  | 0x2#4 => some .adcAMemY
  | 0x3#4 => some .adcAMemYInc
  | 0x4#4 => some .adcBMemX
  | 0x5#4 => some .adcBMemXInc
  | 0x6#4 => some .adcBMemY
  | 0x7#4 => some .adcBMemYInc
  | 0x8#4 => some .adcMemXA
  | 0x9#4 => some .adcMemXIncA
  | 0xA#4 => some .adcMemYA
  | 0xB#4 => some .adcMemYIncA
  | 0xC#4 => some .adcMemXB
  | 0xD#4 => some .adcMemXIncB
  | 0xE#4 => some .adcMemYB
  | _ => some .adcMemYIncB

/-- Words whose high digits are 19F: told apart by bits 3 to 0 (R81 to R85). -/
def decode19F (w : PWord) : Option Instr :=
  match w.extractLsb' 0 4 with
  | 0x0#4 => some .adcAA
  | 0x1#4 => some .adcAA
  | 0x2#4 => some .adcAB
  | 0x3#4 => some .adcAB
  | 0x4#4 => some .adcBA
  | 0x5#4 => some .adcBA
  | 0x6#4 => some .adcBB
  | 0x7#4 => some .adcBB
  | _ => none

/-- Words whose high digits are 19: told apart by bits 7 to 4 (R81 to R85). -/
def decode19 (w : PWord) : Option Instr :=
  match w.extractLsb' 4 4 with
  | 0x0#4 => some (.addMemXImm4 (w.extractLsb' 0 4))
  | 0x1#4 => some (.addMemXIncImm4 (w.extractLsb' 0 4))
  | 0x2#4 => some (.addMemYImm4 (w.extractLsb' 0 4))
  | 0x3#4 => some (.addMemYIncImm4 (w.extractLsb' 0 4))
  | 0x4#4 => some (.addAImm4 (w.extractLsb' 0 4))
  | 0x5#4 => some (.addBImm4 (w.extractLsb' 0 4))
  | 0x6#4 => decode196 w
  | 0x7#4 => decode197 w
  | 0x8#4 => some (.adcMemXImm4 (w.extractLsb' 0 4))
  | 0x9#4 => some (.adcMemXIncImm4 (w.extractLsb' 0 4))
  | 0xA#4 => some (.adcMemYImm4 (w.extractLsb' 0 4))
  | 0xB#4 => some (.adcMemYIncImm4 (w.extractLsb' 0 4))
  | 0xC#4 => some (.adcAImm4 (w.extractLsb' 0 4))
  | 0xD#4 => some (.adcBImm4 (w.extractLsb' 0 4))
  | 0xE#4 => decode19E w
  | _ => decode19F w

/-- Words whose high digits are 1A6: told apart by bits 3 to 0 (R81 to R85). -/
def decode1A6 (w : PWord) : Option Instr :=
  match w.extractLsb' 0 4 with
  | 0x0#4 => some .andAMemX
  | 0x1#4 => some .andAMemXInc
  | 0x2#4 => some .andAMemY
  | 0x3#4 => some .andAMemYInc
  | 0x4#4 => some .andBMemX
  | 0x5#4 => some .andBMemXInc
  | 0x6#4 => some .andBMemY
  | 0x7#4 => some .andBMemYInc
  | 0x8#4 => some .andMemXA
  | 0x9#4 => some .andMemXIncA
  | 0xA#4 => some .andMemYA
  | 0xB#4 => some .andMemYIncA
  | 0xC#4 => some .andMemXB
  | 0xD#4 => some .andMemXIncB
  | 0xE#4 => some .andMemYB
  | _ => some .andMemYIncB

/-- Words whose high digits are 1A7: told apart by bits 3 to 0 (R81 to R85). -/
def decode1A7 (w : PWord) : Option Instr :=
  match w.extractLsb' 0 4 with
  | 0x0#4 => some .andAA
  | 0x1#4 => some .andAA
  | 0x2#4 => some .andAB
  | 0x3#4 => some .andAB
  | 0x4#4 => some .andBA
  | 0x5#4 => some .andBA
  | 0x6#4 => some .andBB
  | 0x7#4 => some .andBB
  | _ => none

/-- Words whose high digits are 1AE: told apart by bits 3 to 0 (R81 to R85). -/
def decode1AE (w : PWord) : Option Instr :=
  match w.extractLsb' 0 4 with
  | 0x0#4 => some .bitAMemX
  | 0x1#4 => some .bitAMemXInc
  | 0x2#4 => some .bitAMemY
  | 0x3#4 => some .bitAMemYInc
  | 0x4#4 => some .bitBMemX
  | 0x5#4 => some .bitBMemXInc
  | 0x6#4 => some .bitBMemY
  | 0x7#4 => some .bitBMemYInc
  | 0x8#4 => some .bitMemXA
  | 0x9#4 => some .bitMemXIncA
  | 0xA#4 => some .bitMemYA
  | 0xB#4 => some .bitMemYIncA
  | 0xC#4 => some .bitMemXB
  | 0xD#4 => some .bitMemXIncB
  | 0xE#4 => some .bitMemYB
  | _ => some .bitMemYIncB

/-- Words whose high digits are 1AF: told apart by bits 3 to 0 (R81 to R85). -/
def decode1AF (w : PWord) : Option Instr :=
  match w.extractLsb' 0 4 with
  | 0x0#4 => some .bitAA
  | 0x1#4 => some .bitAA
  | 0x2#4 => some .bitAB
  | 0x3#4 => some .bitAB
  | 0x4#4 => some .bitBA
  | 0x5#4 => some .bitBA
  | 0x6#4 => some .bitBB
  | 0x7#4 => some .bitBB
  | _ => none

/-- Words whose high digits are 1A: told apart by bits 7 to 4 (R81 to R85). -/
def decode1A (w : PWord) : Option Instr :=
  match w.extractLsb' 4 4 with
  | 0x0#4 => some (.andMemXImm4 (w.extractLsb' 0 4))
  | 0x1#4 => some (.andMemXIncImm4 (w.extractLsb' 0 4))
  | 0x2#4 => some (.andMemYImm4 (w.extractLsb' 0 4))
  | 0x3#4 => some (.andMemYIncImm4 (w.extractLsb' 0 4))
  | 0x4#4 => some (.andAImm4 (w.extractLsb' 0 4))
  | 0x5#4 => some (.andBImm4 (w.extractLsb' 0 4))
  | 0x6#4 => decode1A6 w
  | 0x7#4 => decode1A7 w
  | 0x8#4 => some (.bitMemXImm4 (w.extractLsb' 0 4))
  | 0x9#4 => some (.bitMemXIncImm4 (w.extractLsb' 0 4))
  | 0xA#4 => some (.bitMemYImm4 (w.extractLsb' 0 4))
  | 0xB#4 => some (.bitMemYIncImm4 (w.extractLsb' 0 4))
  | 0xC#4 => some (.bitAImm4 (w.extractLsb' 0 4))
  | 0xD#4 => some (.bitBImm4 (w.extractLsb' 0 4))
  | 0xE#4 => decode1AE w
  | _ => decode1AF w

/-- Words whose high digits are 1B6: told apart by bits 3 to 0 (R81 to R85). -/
def decode1B6 (w : PWord) : Option Instr :=
  match w.extractLsb' 0 4 with
  | 0x0#4 => some .orAMemX
  | 0x1#4 => some .orAMemXInc
  | 0x2#4 => some .orAMemY
  | 0x3#4 => some .orAMemYInc
  | 0x4#4 => some .orBMemX
  | 0x5#4 => some .orBMemXInc
  | 0x6#4 => some .orBMemY
  | 0x7#4 => some .orBMemYInc
  | 0x8#4 => some .orMemXA
  | 0x9#4 => some .orMemXIncA
  | 0xA#4 => some .orMemYA
  | 0xB#4 => some .orMemYIncA
  | 0xC#4 => some .orMemXB
  | 0xD#4 => some .orMemXIncB
  | 0xE#4 => some .orMemYB
  | _ => some .orMemYIncB

/-- Words whose high digits are 1B7: told apart by bits 3 to 0 (R81 to R85). -/
def decode1B7 (w : PWord) : Option Instr :=
  match w.extractLsb' 0 4 with
  | 0x0#4 => some .orAA
  | 0x1#4 => some .orAA
  | 0x2#4 => some .orAB
  | 0x3#4 => some .orAB
  | 0x4#4 => some .orBA
  | 0x5#4 => some .orBA
  | 0x6#4 => some .orBB
  | 0x7#4 => some .orBB
  | _ => none

/-- Words whose high digits are 1BE: told apart by bits 3 to 0 (R81 to R85). -/
def decode1BE (w : PWord) : Option Instr :=
  match w.extractLsb' 0 4 with
  | 0x0#4 => some .xorAMemX
  | 0x1#4 => some .xorAMemXInc
  | 0x2#4 => some .xorAMemY
  | 0x3#4 => some .xorAMemYInc
  | 0x4#4 => some .xorBMemX
  | 0x5#4 => some .xorBMemXInc
  | 0x6#4 => some .xorBMemY
  | 0x7#4 => some .xorBMemYInc
  | 0x8#4 => some .xorMemXA
  | 0x9#4 => some .xorMemXIncA
  | 0xA#4 => some .xorMemYA
  | 0xB#4 => some .xorMemYIncA
  | 0xC#4 => some .xorMemXB
  | 0xD#4 => some .xorMemXIncB
  | 0xE#4 => some .xorMemYB
  | _ => some .xorMemYIncB

/-- Words whose high digits are 1BF: told apart by bits 3 to 0 (R81 to R85). -/
def decode1BF (w : PWord) : Option Instr :=
  match w.extractLsb' 0 4 with
  | 0x0#4 => some .xorAA
  | 0x1#4 => some .xorAA
  | 0x2#4 => some .xorAB
  | 0x3#4 => some .xorAB
  | 0x4#4 => some .xorBA
  | 0x5#4 => some .xorBA
  | 0x6#4 => some .xorBB
  | 0x7#4 => some .xorBB
  | _ => none

/-- Words whose high digits are 1B: told apart by bits 7 to 4 (R81 to R85). -/
def decode1B (w : PWord) : Option Instr :=
  match w.extractLsb' 4 4 with
  | 0x0#4 => some (.orMemXImm4 (w.extractLsb' 0 4))
  | 0x1#4 => some (.orMemXIncImm4 (w.extractLsb' 0 4))
  | 0x2#4 => some (.orMemYImm4 (w.extractLsb' 0 4))
  | 0x3#4 => some (.orMemYIncImm4 (w.extractLsb' 0 4))
  | 0x4#4 => some (.orAImm4 (w.extractLsb' 0 4))
  | 0x5#4 => some (.orBImm4 (w.extractLsb' 0 4))
  | 0x6#4 => decode1B6 w
  | 0x7#4 => decode1B7 w
  | 0x8#4 => some (.xorMemXImm4 (w.extractLsb' 0 4))
  | 0x9#4 => some (.xorMemXIncImm4 (w.extractLsb' 0 4))
  | 0xA#4 => some (.xorMemYImm4 (w.extractLsb' 0 4))
  | 0xB#4 => some (.xorMemYIncImm4 (w.extractLsb' 0 4))
  | 0xC#4 => some (.xorAImm4 (w.extractLsb' 0 4))
  | 0xD#4 => some (.xorBImm4 (w.extractLsb' 0 4))
  | 0xE#4 => decode1BE w
  | _ => decode1BF w

/-- Words whose high digits are 1C: told apart by bits 7 to 4 (R81 to R85). -/
def decode1C (w : PWord) : Option Instr :=
  match w.extractLsb' 4 4 with
  | 0x0#4 => some (.sbcMemXZeroN4 (radixOfField (w.extractLsb' 0 4)))
  | 0x1#4 => some (.sbcMemXIncZeroN4 (radixOfField (w.extractLsb' 0 4)))
  | 0x2#4 => some (.sbcMemYZeroN4 (radixOfField (w.extractLsb' 0 4)))
  | 0x3#4 => some (.sbcMemYIncZeroN4 (radixOfField (w.extractLsb' 0 4)))
  | 0x4#4 => some (.sbcMemXBN4 (radixOfField (w.extractLsb' 0 4)))
  | 0x5#4 => some (.sbcMemXIncBN4 (radixOfField (w.extractLsb' 0 4)))
  | 0x6#4 => some (.sbcMemYBN4 (radixOfField (w.extractLsb' 0 4)))
  | 0x7#4 => some (.sbcMemYIncBN4 (radixOfField (w.extractLsb' 0 4)))
  | 0x8#4 => some (.decMemXN4 (radixOfField (w.extractLsb' 0 4)))
  | 0x9#4 => some (.decMemXIncN4 (radixOfField (w.extractLsb' 0 4)))
  | 0xA#4 => some (.decMemYN4 (radixOfField (w.extractLsb' 0 4)))
  | 0xB#4 => some (.decMemYIncN4 (radixOfField (w.extractLsb' 0 4)))
  | 0xC#4 => some (.sbcBMemXN4 (radixOfField (w.extractLsb' 0 4)))
  | 0xD#4 => some (.sbcBMemXIncN4 (radixOfField (w.extractLsb' 0 4)))
  | 0xE#4 => some (.sbcBMemYN4 (radixOfField (w.extractLsb' 0 4)))
  | _ => some (.sbcBMemYIncN4 (radixOfField (w.extractLsb' 0 4)))

/-- Words whose high digits are 1D: told apart by bits 7 to 4 (R81 to R85). -/
def decode1D (w : PWord) : Option Instr :=
  match w.extractLsb' 4 4 with
  | 0x0#4 => some (.adcMemXZeroN4 (radixOfComplement (w.extractLsb' 0 4)))
  | 0x1#4 => some (.adcMemXIncZeroN4 (radixOfComplement (w.extractLsb' 0 4)))
  | 0x2#4 => some (.adcMemYZeroN4 (radixOfComplement (w.extractLsb' 0 4)))
  | 0x3#4 => some (.adcMemYIncZeroN4 (radixOfComplement (w.extractLsb' 0 4)))
  | 0x4#4 => some (.adcMemXBN4 (radixOfComplement (w.extractLsb' 0 4)))
  | 0x5#4 => some (.adcMemXIncBN4 (radixOfComplement (w.extractLsb' 0 4)))
  | 0x6#4 => some (.adcMemYBN4 (radixOfComplement (w.extractLsb' 0 4)))
  | 0x7#4 => some (.adcMemYIncBN4 (radixOfComplement (w.extractLsb' 0 4)))
  | 0x8#4 => some (.incMemXN4 (radixOfComplement (w.extractLsb' 0 4)))
  | 0x9#4 => some (.incMemXIncN4 (radixOfComplement (w.extractLsb' 0 4)))
  | 0xA#4 => some (.incMemYN4 (radixOfComplement (w.extractLsb' 0 4)))
  | 0xB#4 => some (.incMemYIncN4 (radixOfComplement (w.extractLsb' 0 4)))
  | 0xC#4 => some (.adcBMemXN4 (radixOfComplement (w.extractLsb' 0 4)))
  | 0xD#4 => some (.adcBMemXIncN4 (radixOfComplement (w.extractLsb' 0 4)))
  | 0xE#4 => some (.adcBMemYN4 (radixOfComplement (w.extractLsb' 0 4)))
  | _ => some (.adcBMemYIncN4 (radixOfComplement (w.extractLsb' 0 4)))

/-- Words whose high digits are 1E6: told apart by bits 3 to 0 (R81 to R85). -/
def decode1E6 (w : PWord) : Option Instr :=
  match w.extractLsb' 0 4 with
  | 0x0#4 => some .cmpAMemX
  | 0x1#4 => some .cmpAMemXInc
  | 0x2#4 => some .cmpAMemY
  | 0x3#4 => some .cmpAMemYInc
  | 0x4#4 => some .cmpBMemX
  | 0x5#4 => some .cmpBMemXInc
  | 0x6#4 => some .cmpBMemY
  | 0x7#4 => some .cmpBMemYInc
  | 0x8#4 => some .cmpMemXA
  | 0x9#4 => some .cmpMemXIncA
  | 0xA#4 => some .cmpMemYA
  | 0xB#4 => some .cmpMemYIncA
  | 0xC#4 => some .cmpMemXB
  | 0xD#4 => some .cmpMemXIncB
  | 0xE#4 => some .cmpMemYB
  | _ => some .cmpMemYIncB

/-- Words whose high digits are 1E7: told apart by bits 3 to 0 (R81 to R85). -/
def decode1E7 (w : PWord) : Option Instr :=
  match w.extractLsb' 0 4 with
  | 0x0#4 => some .cmpAA
  | 0x2#4 => some .cmpAB
  | 0x4#4 => some .cmpBA
  | 0x6#4 => some .cmpBB
  | 0x8#4 => some .cmpAA
  | 0xA#4 => some .cmpAB
  | 0xC#4 => some .cmpBA
  | 0xE#4 => some .cmpBB
  | _ => none

/-- Words whose high digits are 1EE: told apart by bits 3 to 0 (R81 to R85). -/
def decode1EE (w : PWord) : Option Instr :=
  match w.extractLsb' 0 4 with
  | 0x0#4 => some .ldAMemX
  | 0x1#4 => some .ldAMemXInc
  | 0x2#4 => some .ldAMemY
  | 0x3#4 => some .ldAMemYInc
  | 0x4#4 => some .ldBMemX
  | 0x5#4 => some .ldBMemXInc
  | 0x6#4 => some .ldBMemY
  | 0x7#4 => some .ldBMemYInc
  | 0x8#4 => some .ldMemXA
  | 0x9#4 => some .ldMemXIncA
  | 0xA#4 => some .ldMemYA
  | 0xB#4 => some .ldMemYIncA
  | 0xC#4 => some .ldMemXB
  | 0xD#4 => some .ldMemXIncB
  | 0xE#4 => some .ldMemYB
  | _ => some .ldMemYIncB

/-- Words whose high digits are 1EF: told apart by bits 3 to 0 (R81 to R85). -/
def decode1EF (w : PWord) : Option Instr :=
  match w.extractLsb' 0 4 with
  | 0x0#4 => some .ldAA
  | 0x2#4 => some .ldAB
  | 0x4#4 => some .ldBA
  | 0x6#4 => some .ldBB
  | 0x8#4 => some .ldMemYMemX
  | 0x9#4 => some .ldMemYMemXInc
  | 0xA#4 => some .ldMemXMemY
  | 0xB#4 => some .ldMemXMemYInc
  | 0xC#4 => some .ldMemYIncMemX
  | 0xD#4 => some .ldMemYIncMemXInc
  | 0xE#4 => some .ldMemXIncMemY
  | 0xF#4 => some .ldMemXIncMemYInc
  | _ => none

/-- Words whose high digits are 1E: told apart by bits 7 to 4 (R81 to R85). -/
def decode1E (w : PWord) : Option Instr :=
  match w.extractLsb' 4 4 with
  | 0x0#4 => some (.cmpMemXImm4 (w.extractLsb' 0 4))
  | 0x1#4 => some (.cmpMemXIncImm4 (w.extractLsb' 0 4))
  | 0x2#4 => some (.cmpMemYImm4 (w.extractLsb' 0 4))
  | 0x3#4 => some (.cmpMemYIncImm4 (w.extractLsb' 0 4))
  | 0x4#4 => some (.cmpAImm4 (w.extractLsb' 0 4))
  | 0x5#4 => some (.cmpBImm4 (w.extractLsb' 0 4))
  | 0x6#4 => decode1E6 w
  | 0x7#4 => decode1E7 w
  | 0x8#4 => some (.ldMemXImm4 (w.extractLsb' 0 4))
  | 0x9#4 => some (.ldMemXIncImm4 (w.extractLsb' 0 4))
  | 0xA#4 => some (.ldMemYImm4 (w.extractLsb' 0 4))
  | 0xB#4 => some (.ldMemYIncImm4 (w.extractLsb' 0 4))
  | 0xC#4 => some (.ldAImm4 (w.extractLsb' 0 4))
  | 0xD#4 => some (.ldBImm4 (w.extractLsb' 0 4))
  | 0xE#4 => decode1EE w
  | _ => decode1EF w

/-- Words whose high digits are 1FC: told apart by bits 3 to 0 (R81 to R85). -/
def decode1FC (w : PWord) : Option Instr :=
  match w.extractLsb' 0 4 with
  | 0x0#4 => some .ldbXLBA
  | 0x1#4 => some .ldbXHBA
  | 0x2#4 => some .ldbYLBA
  | 0x3#4 => some .ldbYHBA
  | 0x4#4 => some .ldbSP1BA
  | 0x5#4 => some .ldbSP1BA
  | 0x6#4 => some .ldbSP2BA
  | 0x7#4 => some .ldbSP2BA
  | 0x8#4 => some .ldbBAXL
  | 0x9#4 => some .ldbBAXH
  | 0xA#4 => some .ldbBAYL
  | 0xB#4 => some .ldbBAYH
  | 0xC#4 => some .ldbBASP1
  | 0xD#4 => some .ldbBASP1
  | 0xE#4 => some .ldbBASP2
  | _ => some .ldbBASP2

/-- Words whose high digits are 1FD: told apart by bits 3 to 0 (R81 to R85). -/
def decode1FD (w : PWord) : Option Instr :=
  match w.extractLsb' 0 4 with
  | 0x0#4 => some .addXBA
  | 0x1#4 => some .addXBA
  | 0x2#4 => some .addYBA
  | 0x3#4 => some .addYBA
  | 0x4#4 => some .ldbEXTBA
  | 0x5#4 => some .ldbEXTBA
  | 0x6#4 => some .ldbBAEXT
  | 0x7#4 => some .ldbBAEXT
  | 0x8#4 => some .ldbBAMemXInc
  | 0x9#4 => some .ldbMemXIncBA
  | 0xA#4 => some .ldbBAMemYInc
  | 0xB#4 => some .ldbMemYIncBA
  | _ => none

/-- Words whose high digits are 1FE: told apart by bits 3 to 0 (R81 to R85). -/
def decode1FE (w : PWord) : Option Instr :=
  match w.extractLsb' 0 4 with
  | 0x0#4 => some .decSP1
  | 0x1#4 => some .pushX
  | 0x2#4 => some .pushY
  | 0x3#4 => some .pushY
  | 0x4#4 => some .decSP2
  | 0x5#4 => some .pushF
  | 0x6#4 => some .pushB
  | 0x7#4 => some .pushA
  | 0x8#4 => some .incSP1
  | 0x9#4 => some .popX
  | 0xA#4 => some .popY
  | 0xB#4 => some .popY
  | 0xC#4 => some .incSP2
  | 0xD#4 => some .popF
  | 0xE#4 => some .popB
  | _ => some .popA

/-- Words whose high digits are 1FF: told apart by bits 3 to 0 (R81 to R85). -/
def decode1FF (w : PWord) : Option Instr :=
  match w.extractLsb' 0 4 with
  | 0x0#4 => some .jrBA
  | 0x1#4 => some .jrA
  | 0x2#4 => some .jpY
  | 0x3#4 => some .jpY
  | 0x5#4 => some .ldFA
  | 0x6#4 => some .ldAF
  | 0x7#4 => some .exAB
  | 0x8#4 => some .ret
  | 0x9#4 => some .reti
  | 0xA#4 => some .ret
  | 0xB#4 => some .rets
  | 0xC#4 => some .halt
  | 0xD#4 => some .slp
  | 0xE#4 => some .nop
  | 0xF#4 => some .nop
  | _ => none

/-- Words whose high digits are 1F: told apart by bits 7 to 4 (R81 to R85). -/
def decode1F (w : PWord) : Option Instr :=
  match w.extractLsb' 4 4 with
  | 0x0#4 => some (.calrMemAddr6 (w.extractLsb' 0 6))
  | 0x1#4 => some (.calrMemAddr6 (w.extractLsb' 0 6))
  | 0x2#4 => some (.calrMemAddr6 (w.extractLsb' 0 6))
  | 0x3#4 => some (.calrMemAddr6 (w.extractLsb' 0 6))
  | 0x4#4 => some (.jrMemAddr6 (w.extractLsb' 0 6))
  | 0x5#4 => some (.jrMemAddr6 (w.extractLsb' 0 6))
  | 0x6#4 => some (.jrMemAddr6 (w.extractLsb' 0 6))
  | 0x7#4 => some (.jrMemAddr6 (w.extractLsb' 0 6))
  | 0x8#4 => some (.intImm6 (w.extractLsb' 0 6))
  | 0x9#4 => some (.intImm6 (w.extractLsb' 0 6))
  | 0xA#4 => some (.intImm6 (w.extractLsb' 0 6))
  | 0xB#4 => some (.intImm6 (w.extractLsb' 0 6))
  | 0xC#4 => decode1FC w
  | 0xD#4 => decode1FD w
  | 0xE#4 => decode1FE w
  | _ => decode1FF w

/-- The instruction a 13-bit word is, or none for the 81 reserved words (R75, R81 to R85). The X bits of R74 are not looked at. -/
def decode (w : PWord) : Option Instr :=
  match w.extractLsb' 8 5 with
  | 0x00#5 => some (.jrSign8 (w.extractLsb' 0 8))
  | 0x01#5 => some (.ldbMemXIncImm8 (w.extractLsb' 0 8))
  | 0x02#5 => some (.calrSign8 (w.extractLsb' 0 8))
  | 0x03#5 => some (.calzImm8 (w.extractLsb' 0 8))
  | 0x04#5 => some (.jrcSign8 (w.extractLsb' 0 8))
  | 0x05#5 => some (.jrncSign8 (w.extractLsb' 0 8))
  | 0x06#5 => some (.jrzSign8 (w.extractLsb' 0 8))
  | 0x07#5 => some (.jrnzSign8 (w.extractLsb' 0 8))
  | 0x08#5 => some (.ldbEXTImm8 (w.extractLsb' 0 8))
  | 0x09#5 => some (.ldbBAImm8 (w.extractLsb' 0 8))
  | 0x0A#5 => some (.ldbXLImm8 (w.extractLsb' 0 8))
  | 0x0B#5 => some (.ldbYLImm8 (w.extractLsb' 0 8))
  | 0x0C#5 => some (.addXSign8 (w.extractLsb' 0 8))
  | 0x0D#5 => some (.addYSign8 (w.extractLsb' 0 8))
  | 0x0E#5 => some (.cmpXImm8 (~~~w.extractLsb' 0 8))
  | 0x0F#5 => some (.cmpYImm8 (~~~w.extractLsb' 0 8))
  | 0x10#5 => decode10 w
  | 0x11#5 => some (.retdImm8 (w.extractLsb' 0 8))
  | 0x12#5 => some (.tstMem00Addr6Imm2 (w.extractLsb' 0 6) (w.extractLsb' 6 2))
  | 0x13#5 => some (.tstMemFFAddr6Imm2 (w.extractLsb' 0 6) (w.extractLsb' 6 2))
  | 0x14#5 => some (.clrMem00Addr6Imm2 (w.extractLsb' 0 6) (w.extractLsb' 6 2))
  | 0x15#5 => some (.clrMemFFAddr6Imm2 (w.extractLsb' 0 6) (w.extractLsb' 6 2))
  | 0x16#5 => some (.setMem00Addr6Imm2 (w.extractLsb' 0 6) (w.extractLsb' 6 2))
  | 0x17#5 => some (.setMemFFAddr6Imm2 (w.extractLsb' 0 6) (w.extractLsb' 6 2))
  | 0x18#5 => decode18 w
  | 0x19#5 => decode19 w
  | 0x1A#5 => decode1A w
  | 0x1B#5 => decode1B w
  | 0x1C#5 => decode1C w
  | 0x1D#5 => decode1D w
  | 0x1E#5 => decode1E w
  | _ => decode1F w

/-- The word of an instruction: its row's fixed bits and fields, don't-care bits 0 (R74, R77 to R80). -/
def encode (i : Instr) : PWord :=
  match i with
  | .ldAA => 0b1111011110000#13
  | .ldAB => 0b1111011110010#13
  | .ldAF => 0b1111111110110#13
  | .ldBA => 0b1111011110100#13
  | .ldBB => 0b1111011110110#13
  | .ldFA => 0b1111111110101#13
  | .ldAImm4 i => 0b111101100#9 ++ i
  | .ldBImm4 i => 0b111101101#9 ++ i
  | .ldFImm4 i => 0b100001011#9 ++ i
  | .ldAMemX => 0b1111011100000#13
  | .ldAMemY => 0b1111011100010#13
  | .ldBMemX => 0b1111011100100#13
  | .ldBMemY => 0b1111011100110#13
  | .ldAMemXInc => 0b1111011100001#13
  | .ldAMemYInc => 0b1111011100011#13
  | .ldBMemXInc => 0b1111011100101#13
  | .ldBMemYInc => 0b1111011100111#13
  | .ldMemXA => 0b1111011101000#13
  | .ldMemXB => 0b1111011101100#13
  | .ldMemYA => 0b1111011101010#13
  | .ldMemYB => 0b1111011101110#13
  | .ldMemXIncA => 0b1111011101001#13
  | .ldMemXIncB => 0b1111011101101#13
  | .ldMemYIncA => 0b1111011101011#13
  | .ldMemYIncB => 0b1111011101111#13
  | .ldMemXImm4 i => 0b111101000#9 ++ i
  | .ldMemYImm4 i => 0b111101010#9 ++ i
  | .ldMemXIncImm4 i => 0b111101001#9 ++ i
  | .ldMemYIncImm4 i => 0b111101011#9 ++ i
  | .exAB => 0b1111111110111#13
  | .exAMemX => 0b1000011111000#13
  | .exAMemY => 0b1000011111010#13
  | .exBMemX => 0b1000011111100#13
  | .exBMemY => 0b1000011111110#13
  | .exAMemXInc => 0b1000011111001#13
  | .exAMemYInc => 0b1000011111011#13
  | .exBMemXInc => 0b1000011111101#13
  | .exBMemYInc => 0b1000011111111#13
  | .ldMemXMemY => 0b1111011111010#13
  | .ldMemYMemX => 0b1111011111000#13
  | .ldMemXMemYInc => 0b1111011111011#13
  | .ldMemYMemXInc => 0b1111011111001#13
  | .ldMemXIncMemY => 0b1111011111110#13
  | .ldMemYIncMemX => 0b1111011111100#13
  | .ldMemXIncMemYInc => 0b1111011111111#13
  | .ldMemYIncMemXInc => 0b1111011111101#13
  | .addAA => 0b1100101110000#13
  | .addAB => 0b1100101110010#13
  | .addBA => 0b1100101110100#13
  | .addBB => 0b1100101110110#13
  | .addAImm4 i => 0b110010100#9 ++ i
  | .addBImm4 i => 0b110010101#9 ++ i
  | .addAMemX => 0b1100101100000#13
  | .addAMemY => 0b1100101100010#13
  | .addBMemX => 0b1100101100100#13
  | .addBMemY => 0b1100101100110#13
  | .addAMemXInc => 0b1100101100001#13
  | .addAMemYInc => 0b1100101100011#13
  | .addBMemXInc => 0b1100101100101#13
  | .addBMemYInc => 0b1100101100111#13
  | .addMemXA => 0b1100101101000#13
  | .addMemXB => 0b1100101101100#13
  | .addMemYA => 0b1100101101010#13
  | .addMemYB => 0b1100101101110#13
  | .addMemXIncA => 0b1100101101001#13
  | .addMemXIncB => 0b1100101101101#13
  | .addMemYIncA => 0b1100101101011#13
  | .addMemYIncB => 0b1100101101111#13
  | .addMemXImm4 i => 0b110010000#9 ++ i
  | .addMemYImm4 i => 0b110010010#9 ++ i
  | .addMemXIncImm4 i => 0b110010001#9 ++ i
  | .addMemYIncImm4 i => 0b110010011#9 ++ i
  | .adcAA => 0b1100111110000#13
  | .adcAB => 0b1100111110010#13
  | .adcBA => 0b1100111110100#13
  | .adcBB => 0b1100111110110#13
  | .adcAImm4 i => 0b110011100#9 ++ i
  | .adcBImm4 i => 0b110011101#9 ++ i
  | .adcAMemX => 0b1100111100000#13
  | .adcAMemY => 0b1100111100010#13
  | .adcBMemX => 0b1100111100100#13
  | .adcBMemY => 0b1100111100110#13
  | .adcAMemXInc => 0b1100111100001#13
  | .adcAMemYInc => 0b1100111100011#13
  | .adcBMemXInc => 0b1100111100101#13
  | .adcBMemYInc => 0b1100111100111#13
  | .adcMemXA => 0b1100111101000#13
  | .adcMemXB => 0b1100111101100#13
  | .adcMemYA => 0b1100111101010#13
  | .adcMemYB => 0b1100111101110#13
  | .adcMemXIncA => 0b1100111101001#13
  | .adcMemXIncB => 0b1100111101101#13
  | .adcMemYIncA => 0b1100111101011#13
  | .adcMemYIncB => 0b1100111101111#13
  | .adcMemXImm4 i => 0b110011000#9 ++ i
  | .adcMemYImm4 i => 0b110011010#9 ++ i
  | .adcMemXIncImm4 i => 0b110011001#9 ++ i
  | .adcMemYIncImm4 i => 0b110011011#9 ++ i
  | .subAA => 0b1100001110000#13
  | .subAB => 0b1100001110010#13
  | .subBA => 0b1100001110100#13
  | .subBB => 0b1100001110110#13
  | .subAImm4 i => 0b110000100#9 ++ i
  | .subBImm4 i => 0b110000101#9 ++ i
  | .subAMemX => 0b1100001100000#13
  | .subAMemY => 0b1100001100010#13
  | .subBMemX => 0b1100001100100#13
  | .subBMemY => 0b1100001100110#13
  | .subAMemXInc => 0b1100001100001#13
  | .subAMemYInc => 0b1100001100011#13
  | .subBMemXInc => 0b1100001100101#13
  | .subBMemYInc => 0b1100001100111#13
  | .subMemXA => 0b1100001101000#13
  | .subMemXB => 0b1100001101100#13
  | .subMemYA => 0b1100001101010#13
  | .subMemYB => 0b1100001101110#13
  | .subMemXIncA => 0b1100001101001#13
  | .subMemXIncB => 0b1100001101101#13
  | .subMemYIncA => 0b1100001101011#13
  | .subMemYIncB => 0b1100001101111#13
  | .subMemXImm4 i => 0b110000000#9 ++ i
  | .subMemYImm4 i => 0b110000010#9 ++ i
  | .subMemXIncImm4 i => 0b110000001#9 ++ i
  | .subMemYIncImm4 i => 0b110000011#9 ++ i
  | .sbcAA => 0b1100011110000#13
  | .sbcAB => 0b1100011110010#13
  | .sbcBA => 0b1100011110100#13
  | .sbcBB => 0b1100011110110#13
  | .sbcAImm4 i => 0b110001100#9 ++ i
  | .sbcBImm4 i => 0b110001101#9 ++ i
  | .sbcAMemX => 0b1100011100000#13
  | .sbcAMemY => 0b1100011100010#13
  | .sbcBMemX => 0b1100011100100#13
  | .sbcBMemY => 0b1100011100110#13
  | .sbcAMemXInc => 0b1100011100001#13
  | .sbcAMemYInc => 0b1100011100011#13
  | .sbcBMemXInc => 0b1100011100101#13
  | .sbcBMemYInc => 0b1100011100111#13
  | .sbcMemXA => 0b1100011101000#13
  | .sbcMemXB => 0b1100011101100#13
  | .sbcMemYA => 0b1100011101010#13
  | .sbcMemYB => 0b1100011101110#13
  | .sbcMemXIncA => 0b1100011101001#13
  | .sbcMemXIncB => 0b1100011101101#13
  | .sbcMemYIncA => 0b1100011101011#13
  | .sbcMemYIncB => 0b1100011101111#13
  | .sbcMemXImm4 i => 0b110001000#9 ++ i
  | .sbcMemYImm4 i => 0b110001010#9 ++ i
  | .sbcMemXIncImm4 i => 0b110001001#9 ++ i
  | .sbcMemYIncImm4 i => 0b110001011#9 ++ i
  | .cmpAA => 0b1111001110000#13
  | .cmpAB => 0b1111001110010#13
  | .cmpBA => 0b1111001110100#13
  | .cmpBB => 0b1111001110110#13
  | .cmpAImm4 i => 0b111100100#9 ++ i
  | .cmpBImm4 i => 0b111100101#9 ++ i
  | .cmpAMemX => 0b1111001100000#13
  | .cmpAMemY => 0b1111001100010#13
  | .cmpBMemX => 0b1111001100100#13
  | .cmpBMemY => 0b1111001100110#13
  | .cmpAMemXInc => 0b1111001100001#13
  | .cmpAMemYInc => 0b1111001100011#13
  | .cmpBMemXInc => 0b1111001100101#13
  | .cmpBMemYInc => 0b1111001100111#13
  | .cmpMemXA => 0b1111001101000#13
  | .cmpMemXB => 0b1111001101100#13
  | .cmpMemYA => 0b1111001101010#13
  | .cmpMemYB => 0b1111001101110#13
  | .cmpMemXIncA => 0b1111001101001#13
  | .cmpMemXIncB => 0b1111001101101#13
  | .cmpMemYIncA => 0b1111001101011#13
  | .cmpMemYIncB => 0b1111001101111#13
  | .cmpMemXImm4 i => 0b111100000#9 ++ i
  | .cmpMemYImm4 i => 0b111100010#9 ++ i
  | .cmpMemXIncImm4 i => 0b111100001#9 ++ i
  | .cmpMemYIncImm4 i => 0b111100011#9 ++ i
  | .incMemAddr6 a => 0b1000001#7 ++ a
  | .decMemAddr6 a => 0b1000000#7 ++ a
  | .adcBAN4 n => 0b100001101#9 ++ complementOfRadix n
  | .adcBMemXN4 n => 0b111011100#9 ++ complementOfRadix n
  | .adcBMemYN4 n => 0b111011110#9 ++ complementOfRadix n
  | .adcBMemXIncN4 n => 0b111011101#9 ++ complementOfRadix n
  | .adcBMemYIncN4 n => 0b111011111#9 ++ complementOfRadix n
  | .adcMemXBN4 n => 0b111010100#9 ++ complementOfRadix n
  | .adcMemYBN4 n => 0b111010110#9 ++ complementOfRadix n
  | .adcMemXIncBN4 n => 0b111010101#9 ++ complementOfRadix n
  | .adcMemYIncBN4 n => 0b111010111#9 ++ complementOfRadix n
  | .adcMemXZeroN4 n => 0b111010000#9 ++ complementOfRadix n
  | .adcMemYZeroN4 n => 0b111010010#9 ++ complementOfRadix n
  | .adcMemXIncZeroN4 n => 0b111010001#9 ++ complementOfRadix n
  | .adcMemYIncZeroN4 n => 0b111010011#9 ++ complementOfRadix n
  | .sbcBAN4 n => 0b100001100#9 ++ fieldOfRadix n
  | .sbcBMemXN4 n => 0b111001100#9 ++ fieldOfRadix n
  | .sbcBMemYN4 n => 0b111001110#9 ++ fieldOfRadix n
  | .sbcBMemXIncN4 n => 0b111001101#9 ++ fieldOfRadix n
  | .sbcBMemYIncN4 n => 0b111001111#9 ++ fieldOfRadix n
  | .sbcMemXBN4 n => 0b111000100#9 ++ fieldOfRadix n
  | .sbcMemYBN4 n => 0b111000110#9 ++ fieldOfRadix n
  | .sbcMemXIncBN4 n => 0b111000101#9 ++ fieldOfRadix n
  | .sbcMemYIncBN4 n => 0b111000111#9 ++ fieldOfRadix n
  | .sbcMemXZeroN4 n => 0b111000000#9 ++ fieldOfRadix n
  | .sbcMemYZeroN4 n => 0b111000010#9 ++ fieldOfRadix n
  | .sbcMemXIncZeroN4 n => 0b111000001#9 ++ fieldOfRadix n
  | .sbcMemYIncZeroN4 n => 0b111000011#9 ++ fieldOfRadix n
  | .incMemXN4 n => 0b111011000#9 ++ complementOfRadix n
  | .incMemYN4 n => 0b111011010#9 ++ complementOfRadix n
  | .incMemXIncN4 n => 0b111011001#9 ++ complementOfRadix n
  | .incMemYIncN4 n => 0b111011011#9 ++ complementOfRadix n
  | .decMemXN4 n => 0b111001000#9 ++ fieldOfRadix n
  | .decMemYN4 n => 0b111001010#9 ++ fieldOfRadix n
  | .decMemXIncN4 n => 0b111001001#9 ++ fieldOfRadix n
  | .decMemYIncN4 n => 0b111001011#9 ++ fieldOfRadix n
  | .andAA => 0b1101001110000#13
  | .andAB => 0b1101001110010#13
  | .andBA => 0b1101001110100#13
  | .andBB => 0b1101001110110#13
  | .andAImm4 i => 0b110100100#9 ++ i
  | .andBImm4 i => 0b110100101#9 ++ i
  | .andAMemX => 0b1101001100000#13
  | .andAMemY => 0b1101001100010#13
  | .andBMemX => 0b1101001100100#13
  | .andBMemY => 0b1101001100110#13
  | .andAMemXInc => 0b1101001100001#13
  | .andAMemYInc => 0b1101001100011#13
  | .andBMemXInc => 0b1101001100101#13
  | .andBMemYInc => 0b1101001100111#13
  | .andMemXA => 0b1101001101000#13
  | .andMemXB => 0b1101001101100#13
  | .andMemYA => 0b1101001101010#13
  | .andMemYB => 0b1101001101110#13
  | .andMemXIncA => 0b1101001101001#13
  | .andMemXIncB => 0b1101001101101#13
  | .andMemYIncA => 0b1101001101011#13
  | .andMemYIncB => 0b1101001101111#13
  | .andMemXImm4 i => 0b110100000#9 ++ i
  | .andMemYImm4 i => 0b110100010#9 ++ i
  | .andMemXIncImm4 i => 0b110100001#9 ++ i
  | .andMemYIncImm4 i => 0b110100011#9 ++ i
  | .andFImm4 i => 0b100001000#9 ++ i
  | .orAA => 0b1101101110000#13
  | .orAB => 0b1101101110010#13
  | .orBA => 0b1101101110100#13
  | .orBB => 0b1101101110110#13
  | .orAImm4 i => 0b110110100#9 ++ i
  | .orBImm4 i => 0b110110101#9 ++ i
  | .orAMemX => 0b1101101100000#13
  | .orAMemY => 0b1101101100010#13
  | .orBMemX => 0b1101101100100#13
  | .orBMemY => 0b1101101100110#13
  | .orAMemXInc => 0b1101101100001#13
  | .orAMemYInc => 0b1101101100011#13
  | .orBMemXInc => 0b1101101100101#13
  | .orBMemYInc => 0b1101101100111#13
  | .orMemXA => 0b1101101101000#13
  | .orMemXB => 0b1101101101100#13
  | .orMemYA => 0b1101101101010#13
  | .orMemYB => 0b1101101101110#13
  | .orMemXIncA => 0b1101101101001#13
  | .orMemXIncB => 0b1101101101101#13
  | .orMemYIncA => 0b1101101101011#13
  | .orMemYIncB => 0b1101101101111#13
  | .orMemXImm4 i => 0b110110000#9 ++ i
  | .orMemYImm4 i => 0b110110010#9 ++ i
  | .orMemXIncImm4 i => 0b110110001#9 ++ i
  | .orMemYIncImm4 i => 0b110110011#9 ++ i
  | .orFImm4 i => 0b100001001#9 ++ i
  | .xorAA => 0b1101111110000#13
  | .xorAB => 0b1101111110010#13
  | .xorBA => 0b1101111110100#13
  | .xorBB => 0b1101111110110#13
  | .xorAImm4 i => 0b110111100#9 ++ i
  | .xorBImm4 i => 0b110111101#9 ++ i
  | .xorAMemX => 0b1101111100000#13
  | .xorAMemY => 0b1101111100010#13
  | .xorBMemX => 0b1101111100100#13
  | .xorBMemY => 0b1101111100110#13
  | .xorAMemXInc => 0b1101111100001#13
  | .xorAMemYInc => 0b1101111100011#13
  | .xorBMemXInc => 0b1101111100101#13
  | .xorBMemYInc => 0b1101111100111#13
  | .xorMemXA => 0b1101111101000#13
  | .xorMemXB => 0b1101111101100#13
  | .xorMemYA => 0b1101111101010#13
  | .xorMemYB => 0b1101111101110#13
  | .xorMemXIncA => 0b1101111101001#13
  | .xorMemXIncB => 0b1101111101101#13
  | .xorMemYIncA => 0b1101111101011#13
  | .xorMemYIncB => 0b1101111101111#13
  | .xorMemXImm4 i => 0b110111000#9 ++ i
  | .xorMemYImm4 i => 0b110111010#9 ++ i
  | .xorMemXIncImm4 i => 0b110111001#9 ++ i
  | .xorMemYIncImm4 i => 0b110111011#9 ++ i
  | .xorFImm4 i => 0b100001010#9 ++ i
  | .bitAA => 0b1101011110000#13
  | .bitAB => 0b1101011110010#13
  | .bitBA => 0b1101011110100#13
  | .bitBB => 0b1101011110110#13
  | .bitAImm4 i => 0b110101100#9 ++ i
  | .bitBImm4 i => 0b110101101#9 ++ i
  | .bitAMemX => 0b1101011100000#13
  | .bitAMemY => 0b1101011100010#13
  | .bitBMemX => 0b1101011100100#13
  | .bitBMemY => 0b1101011100110#13
  | .bitAMemXInc => 0b1101011100001#13
  | .bitAMemYInc => 0b1101011100011#13
  | .bitBMemXInc => 0b1101011100101#13
  | .bitBMemYInc => 0b1101011100111#13
  | .bitMemXA => 0b1101011101000#13
  | .bitMemXB => 0b1101011101100#13
  | .bitMemYA => 0b1101011101010#13
  | .bitMemYB => 0b1101011101110#13
  | .bitMemXIncA => 0b1101011101001#13
  | .bitMemXIncB => 0b1101011101101#13
  | .bitMemYIncA => 0b1101011101011#13
  | .bitMemYIncB => 0b1101011101111#13
  | .bitMemXImm4 i => 0b110101000#9 ++ i
  | .bitMemYImm4 i => 0b110101010#9 ++ i
  | .bitMemXIncImm4 i => 0b110101001#9 ++ i
  | .bitMemYIncImm4 i => 0b110101011#9 ++ i
  | .clrMem00Addr6Imm2 a b => 0b10100#5 ++ b ++ a
  | .clrMemFFAddr6Imm2 a b => 0b10101#5 ++ b ++ a
  | .setMem00Addr6Imm2 a b => 0b10110#5 ++ b ++ a
  | .setMemFFAddr6Imm2 a b => 0b10111#5 ++ b ++ a
  | .tstMem00Addr6Imm2 a b => 0b10010#5 ++ b ++ a
  | .tstMemFFAddr6Imm2 a b => 0b10011#5 ++ b ++ a
  | .sllA => 0b1000011110000#13
  | .sllB => 0b1000011110100#13
  | .sllMemX => 0b1000011100000#13
  | .sllMemY => 0b1000011100010#13
  | .sllMemXInc => 0b1000011100001#13
  | .sllMemYInc => 0b1000011100011#13
  | .srlA => 0b1000011110001#13
  | .srlB => 0b1000011110101#13
  | .srlMemX => 0b1000011100100#13
  | .srlMemY => 0b1000011100110#13
  | .srlMemXInc => 0b1000011100101#13
  | .srlMemYInc => 0b1000011100111#13
  | .rlA => 0b1000011110010#13
  | .rlB => 0b1000011110110#13
  | .rlMemX => 0b1000011101000#13
  | .rlMemY => 0b1000011101010#13
  | .rlMemXInc => 0b1000011101001#13
  | .rlMemYInc => 0b1000011101011#13
  | .rrA => 0b1000011110011#13
  | .rrB => 0b1000011110111#13
  | .rrMemX => 0b1000011101100#13
  | .rrMemY => 0b1000011101110#13
  | .rrMemXInc => 0b1000011101101#13
  | .rrMemYInc => 0b1000011101111#13
  | .ldbBAImm8 i => 0b01001#5 ++ i
  | .ldbBAMemXInc => 0b1111111011000#13
  | .ldbBAMemYInc => 0b1111111011010#13
  | .ldbBAEXT => 0b1111111010110#13
  | .ldbBAXL => 0b1111111001000#13
  | .ldbBAXH => 0b1111111001001#13
  | .ldbBAYL => 0b1111111001010#13
  | .ldbBAYH => 0b1111111001011#13
  | .ldbBASP1 => 0b1111111001100#13
  | .ldbBASP2 => 0b1111111001110#13
  | .ldbMemXIncBA => 0b1111111011001#13
  | .ldbMemYIncBA => 0b1111111011011#13
  | .ldbMemXIncImm8 i => 0b00001#5 ++ i
  | .ldbEXTImm8 i => 0b01000#5 ++ i
  | .ldbEXTBA => 0b1111111010100#13
  | .ldbXLImm8 i => 0b01010#5 ++ i
  | .ldbYLImm8 i => 0b01011#5 ++ i
  | .ldbXLBA => 0b1111111000000#13
  | .ldbXHBA => 0b1111111000001#13
  | .ldbYLBA => 0b1111111000010#13
  | .ldbYHBA => 0b1111111000011#13
  | .ldbSP1BA => 0b1111111000100#13
  | .ldbSP2BA => 0b1111111000110#13
  | .addXBA => 0b1111111010000#13
  | .addYBA => 0b1111111010010#13
  | .addXSign8 d => 0b01100#5 ++ d
  | .addYSign8 d => 0b01101#5 ++ d
  | .cmpXImm8 i => 0b01110#5 ++ ~~~i
  | .cmpYImm8 i => 0b01111#5 ++ ~~~i
  | .incSP1 => 0b1111111101000#13
  | .incSP2 => 0b1111111101100#13
  | .decSP1 => 0b1111111100000#13
  | .decSP2 => 0b1111111100100#13
  | .pushA => 0b1111111100111#13
  | .pushB => 0b1111111100110#13
  | .pushF => 0b1111111100101#13
  | .popA => 0b1111111101111#13
  | .popB => 0b1111111101110#13
  | .popF => 0b1111111101101#13
  | .pushX => 0b1111111100001#13
  | .pushY => 0b1111111100010#13
  | .popX => 0b1111111101001#13
  | .popY => 0b1111111101010#13
  | .jrSign8 d => 0b00000#5 ++ d
  | .jrA => 0b1111111110001#13
  | .jrBA => 0b1111111110000#13
  | .jrMemAddr6 a => 0b1111101#7 ++ a
  | .jrcSign8 d => 0b00100#5 ++ d
  | .jrncSign8 d => 0b00101#5 ++ d
  | .jrzSign8 d => 0b00110#5 ++ d
  | .jrnzSign8 d => 0b00111#5 ++ d
  | .jpY => 0b1111111110010#13
  | .calzImm8 i => 0b00011#5 ++ i
  | .calrSign8 d => 0b00010#5 ++ d
  | .calrMemAddr6 a => 0b1111100#7 ++ a
  | .ret => 0b1111111111000#13
  | .rets => 0b1111111111011#13
  | .retdImm8 i => 0b10001#5 ++ i
  | .reti => 0b1111111111001#13
  | .intImm6 v => 0b1111110#7 ++ v
  | .nop => 0b1111111111110#13
  | .halt => 0b1111111111100#13
  | .slp => 0b1111111111101#13

/-- What the decoder reads from a table row's word: 13 bits, held in the low bits of two bytes; a number with a higher bit
set is no program word. -/
def decodeTableWord (_nbits w : Nat) : Option Instr :=
  if w < 8192 then decode (BitVec.ofNat 13 w) else none

end Sys2Proof
end

