-- ==== Sys2Proof/Config.lean ====
section
/-! DEFINITION. What one S1C63 Family model fixes and the core leaves open (spec/00_scope.md R6): plain data carried by the
state, and the free values, what a peripheral circuit does where its parameter does not say. -/

namespace Sys2Proof

/-- What stands at a data address (R6, R64): RAM, data ROM or an I/O register; an address in no region holds nothing. -/
inductive MemKind where
  | ram
  | rom
  | io
deriving DecidableEq, Repr

/-- One mounted range of data addresses: `size` words from `base` on. -/
structure Region where
  base : Nat
  size : Nat
  kind : MemKind
deriving DecidableEq, Repr

/-- A hardware interrupt source that can end SLEEP (R6 `SLEEP_WAKE`: a subset of NMI and `IRQ_SOURCES`). -/
inductive WakeSource where
  | nmi
  | irq (vector : Nibble)
deriving DecidableEq, Repr

/-- The state of the peripheral circuits, as far as the core can tell states apart: a number that names it. -/
abbrev Periph := Nat

/-- One access to an I/O word as a row of `io_read` or `io_write` (R52): found in peripheral state `before`, the access to
`address` gives (a read) or brings (a write) `value` and leaves the peripheral in state `after`. -/
structure IoRow where
  before : Periph
  address : Addr
  value : Nibble
  after : Periph
deriving DecidableEq, Repr

/-- `IO_BEHAVIOUR` (R6, R52): the host's functions `io_read` and `io_write` as the tables of their rows, and what a reset
makes of a peripheral state (R353). The first row that fits decides, and where none fits the free values below do. -/
structure IoBehaviour where
  reads : List IoRow
  writes : List IoRow
  resets : List (Periph × Periph)
deriving DecidableEq, Repr

/-- The row of `io_read` for this state and address. -/
def IoBehaviour.readRow (b : IoBehaviour) (p : Periph) (a : Addr) : Option IoRow :=
  b.reads.find? fun r => r.before == p && r.address == a

/-- The row of `io_write` for this state, address and value. -/
def IoBehaviour.writeRow (b : IoBehaviour) (p : Periph) (a : Addr) (v : Nibble) : Option IoRow :=
  b.writes.find? fun r => r.before == p && r.address == a && r.value == v

/-- The parameters of R6. -/
structure Config where
  /-- `ROM_WORDS`: program addresses below it exist. -/
  romWords : Nat
  /-- `DATA_MAP`: the first region that holds an address says what is mounted there. -/
  dataMap : List Region
  /-- `RAM16_RANGE`: the 16-bit accessible RAM is `ram16Lo` up to, not including, `ram16Hi`. -/
  ram16Lo : Nat
  ram16Hi : Nat
  /-- `IRQ_SOURCES`: the vector numbers, 1 to 15, that the peripheral circuits use. -/
  irqSources : List Nibble
  /-- `SLEEP_WAKE`. -/
  sleepWake : List WakeSource
  /-- `IO_BEHAVIOUR`. -/
  io : IoBehaviour
deriving DecidableEq, Repr

/-- The default configuration of spec/92_eei_decisions.md D23: 65536 program words, RAM at 0000H to FEFFH, nothing at FF00H to
FFFFH, 16-bit RAM at 0000H to 03FFH, no interrupt source, no I/O. -/
def Config.standard : Config where
  romWords := 65536
  dataMap := [⟨0, 0xFF00, .ram⟩]
  ram16Lo := 0
  ram16Hi := 0x400
  irqSources := []
  sleepWake := []
  io := ⟨[], [], []⟩

/-- FREE VALUE (assumption 4, DESIGN CHOICE): what `io_read` answers, the value and the peripheral's new state, where the
table has no row (R6, R52). It has no body, so nothing can be proved of its value. The first argument is the cycle counter, since
a peripheral may change with time. -/
opaque Config.freeIoRead : Nat → Periph → Addr → Nibble × Periph

/-- FREE VALUE (assumption 4, DESIGN CHOICE): the peripheral's new state after `io_write`, where the table has no row. -/
opaque Config.freeIoWrite : Nat → Periph → Addr → Nibble → Periph

/-- FREE VALUE (assumption 4, DESIGN CHOICE): the peripheral's state after a reset, where the table has no row (R353: "I/O state
is the peripheral's business"). -/
opaque Config.freeIoReset : Nat → Periph → Periph

end Sys2Proof
end

