-- ==== Sys2Proof/Machine/State.lean ====
section
/-! DEFINITION. The machine's state as plain data, the ways a step can stop, and the state after reset
(spec/10_state.md R10 to R39, spec/60_exceptions.md R325 to R331, spec/70_reset_and_hazards.md R351). -/

namespace Sys2Proof.Machine

/-- The data registers (R11). -/
inductive Reg where
  | a
  | b
deriving DecidableEq, Repr

/-- The index registers (R12). -/
inductive Idx where
  | x
  | y
deriving DecidableEq, Repr

/-- The stack pointers (R28, R29). -/
inductive StackPtr where
  | sp1
  | sp2
deriving DecidableEq, Repr

/-- The stack-pointer-pair interrupt mask (R32). -/
inductive PairMask where
  | bothUnset
  | oneSet (which : StackPtr)
  | pairSet
deriving DecidableEq, Repr

/-- The run state (R325). -/
inductive RunState where
  | run
  | halt
  | sleep
deriving DecidableEq, Repr

/-- What the environment offers at one instruction boundary (R330): SR low, a falling edge on NMI since the last boundary, and
the IRQ line low with a vector number on offer. -/
structure BoundaryInput where
  reset : Bool
  nmiEdge : Bool
  irq : Option Nibble
deriving DecidableEq, Repr

/-- What the environment can observe as events (R331), and the accesses to I/O words (R52). -/
inductive Event where
  /-- IACK together with NACK: an NMI was accepted. -/
  | nmiAck
  /-- IACK alone: a maskable interrupt was accepted. -/
  | irqAck
  /-- The vector read (RDIV): the number an IRQ source learns was taken. -/
  | vectorRead (vector : Nibble)
  /-- USLP goes low: `SLP` was executed. -/
  | uslp
  /-- One read of an I/O word and the value it gave. -/
  | ioRead (address : Addr) (value : Nibble)
  /-- One write of an I/O word. -/
  | ioWrite (address : Addr) (value : Nibble)
deriving DecidableEq, Repr

/-- Data memory: (address, 4-bit word) pairs, addresses strictly rising. An address not listed holds no value. -/
abbrev Memory := List (Nat × Nibble)

/-- Program memory: (address, 13-bit word) pairs, addresses strictly rising. An address not listed is not mapped. -/
abbrev ProgramMemory := List (Nat × PWord)

/-- The whole machine. -/
structure State where
  /-- Data registers A and B (R11). -/
  a : Nibble
  b : Nibble
  /-- Index registers X and Y (R12). -/
  x : Addr
  y : Addr
  /-- Extension register EXT (R25). -/
  ext : Byte
  /-- Program counter (R14): the address of the instruction to be executed next. -/
  pc : Addr
  /-- Stack pointers SP1 and SP2, the settable 8 bits (R28, R29). -/
  sp1 : Byte
  sp2 : Byte
  /-- Flag register F: E is bit 3, I bit 2, C bit 1, Z bit 0 (R19). -/
  f : Nibble
  /-- Queue register Q (R30); `none` after a refill from words that nothing has written (R358), never at reset. -/
  q : Option Addr
  /-- The stack-pointer-pair interrupt mask (R32). -/
  pairMask : PairMask
  /-- The interrupt-deferral marker (R33). -/
  defer : Bool
  /-- The run state (R325). -/
  run : RunState
  /-- The latched NMI request (R34, R303). -/
  nmiPending : Bool
  /-- Initial reset status: SR was low at the last boundary (R350, R355); the STOP output follows it (R331). -/
  inReset : Bool
  /-- Program memory (R40, R43). -/
  prog : ProgramMemory
  /-- Data memory (R40, R42). -/
  mem : Memory
  /-- The parameters of the family model (R6); no step changes them. -/
  cfg : Config
  /-- The environment's inputs, the next boundary's first (R330, R356); an empty list means nothing more will come. -/
  inputs : List BoundaryInput
  /-- The environment's view: events so far, the latest first (R331). -/
  events : List Event
  /-- The state of the peripheral circuits, which only `io_read`, `io_write` and a reset change (R52, R353). -/
  periph : Periph
  /-- The cycle counter, an output of the model (R365). -/
  cycles : Nat
deriving DecidableEq, Repr

/-- How a step ends in a fault: the model faults of spec/93_implementation_defined.md, and the end of a run. -/
inductive Fault where
  /-- `ReservedEncoding` (U3, R75): raised by the fetch of one of the 81 unassigned words. Safe: the source gives no effect. -/
  | reservedEncoding (address : Addr) (word : PWord)
  /-- `ExtMisuse` (U4, R27): raised by every EXT-invalid instruction that starts with E = 1. `word` is what program memory
  holds at that address. Safe: "Operation cannot be guaranteed". -/
  | extMisuse (address : Addr) (word : Option PWord)
  /-- `UndefinedRead(address)` (U2, R358): raised by a 4-bit read of a RAM or ROM word that nothing has written. Safe. -/
  | undefinedRead (address : Addr)
  /-- `UndefinedRead(Q)` (U2, R358): raised by a pop of a queue entry refilled from words that nothing has written. Safe. -/
  | undefinedQueue
  /-- `UnmappedFetch` (U5, R43): raised by a fetch outside the program memory that exists. Safe. -/
  | unmappedFetch (address : Addr)
  /-- `UnmappedRead` (U6, R44, R290 i): raised by a data read where nothing is mounted, and by a 4-bit pop of a word that is not
  RAM. Safe. -/
  | unmappedRead (address : Addr)
  /-- `UnmappedWrite` (U7, R45, R290 i): raised by a data write where nothing, or data ROM, is mounted, and by a 4-bit push onto
  a word that is not RAM. Safe. -/
  | unmappedWrite (address : Addr)
  /-- `Stack16OutsideRam16` (U8, R45): raised by a 16-bit stack access outside `RAM16_RANGE`. Safe. -/
  | stack16OutsideRam16 (address : Addr)
  /-- Quiescence (U12, R357 b): raised by a step in HALT or SLEEP with no input left that could end it. Safe: a stuck state. -/
  | quiescent
deriving DecidableEq, Repr

/-- How a step is refused. -/
inductive Refusal where
  /-- Raised by `exec` for an instruction that has no meaning yet; no arm does so. Safe. -/
  | notModelled (mnemonic : String)
  /-- Raised at a boundary whose input offers vector number 0 (U15, R304, D20). Safe: the host is refused. -/
  | irqVectorZero
  /-- Raised at a boundary whose input offers a vector number that `IRQ_SOURCES` does not list (R6, R304). Safe. -/
  | irqNotASource (vector : Nibble)
deriving DecidableEq, Repr

/-- The machine right after an initial reset at power-on (R39, R351, D23): PC, E, I and the hidden state as the spec gives them;
every register the spec calls undefined holds 0 (assumption 1, DESIGN CHOICE, unsafe); no program and no data word is listed; SR
is high again (assumption 12); the peripheral circuits are in the state called 0 (assumption 4). -/
def State.reset : State where
  a := 0#4
  b := 0#4
  x := 0x0000#16
  y := 0x0000#16
  ext := 0x00#8
  pc := 0x0110#16
  sp1 := 0x00#8
  sp2 := 0x00#8
  f := 0b0000#4
  q := some 0x0000#16
  pairMask := .bothUnset
  defer := false
  run := .run
  nmiPending := false
  inReset := false
  prog := []
  mem := []
  cfg := Config.standard
  inputs := []
  events := []
  periph := 0
  cycles := 0

end Sys2Proof.Machine
end

