-- ==== Sys2Proof/Machine/Flags.lean ====
section
/-! DEFINITION. The flags, and every 4-bit result with its C and Z (spec/10_state.md R19 to R24, spec/41_arithmetic.md R121,
spec/42_radix_arithmetic.md R180 and R181, spec/43_logic.md R210 and R211, spec/44_shift_rotate.md R250). -/

namespace Sys2Proof.Machine

/-- E, extension mode: bit 3 of F (R23). -/
def flagE (f : Nibble) : Bool := f.getLsbD 3

/-- I, interrupt enable: bit 2 of F (R22). -/
def flagI (f : Nibble) : Bool := f.getLsbD 2

/-- C, carry: bit 1 of F (R21). -/
def flagC (f : Nibble) : Bool := f.getLsbD 1

/-- Z, zero: bit 0 of F (R20). -/
def flagZ (f : Nibble) : Bool := f.getLsbD 0

/-- F from its four flags (R19). -/
def packF (e i c z : Bool) : Nibble := BitVec.ofBool e ++ BitVec.ofBool i ++ BitVec.ofBool c ++ BitVec.ofBool z

/-- F with C and Z replaced. -/
def withCZ (f : Nibble) (c z : Bool) : Nibble := packF (flagE f) (flagI f) c z

/-- F with Z replaced. -/
def withZ (f : Nibble) (z : Bool) : Nibble := packF (flagE f) (flagI f) (flagC f) z

/-- F with E replaced. -/
def withE (f : Nibble) (e : Bool) : Nibble := packF e (flagI f) (flagC f) (flagZ f)

/-- F with I replaced. -/
def withI (f : Nibble) (i : Bool) : Nibble := packF (flagE f) i (flagC f) (flagZ f)

/-- What a 4-bit operation answers: the result and the two flags it leaves. -/
structure AluOut where
  res : Nibble
  c : Bool
  z : Bool
deriving DecidableEq, Repr

/-- A 4-bit operation of two operands and the old C: `op cin x y`, x the destination operand. -/
abbrev AluOp := Bool → Nibble → Nibble → AluOut

/-- A carry or borrow bit as a number. -/
def carryIn (c : Bool) : Nat := if c then 1 else 0

/-- A result with Z set from it (R20). -/
def aluOut (res : Nibble) (c : Bool) : AluOut := ⟨res, c, decide (res = 0#4)⟩

/-- N's-adjust addition (R180): the exact sum, less the radix once if it reaches the radix. -/
def nadd (x y : Nibble) (cin : Bool) (n : Nat) : AluOut :=
  let t := x.toNat + y.toNat + carryIn cin
  if n ≤ t then aluOut (BitVec.ofNat 4 (t - n)) true else aluOut (BitVec.ofNat 4 t) false

/-- N's-adjust subtraction (R181): the exact difference, plus the radix once if it is negative. -/
def nsub (x y : Nibble) (cin : Bool) (n : Nat) : AluOut :=
  let t : Int := (x.toNat : Int) - y.toNat - carryIn cin
  if t < 0 then aluOut (BitVec.ofInt 4 (t + n)) true else aluOut (BitVec.ofInt 4 t) false

/-- Binary addition of x, y and a carry (R121): C is the carry out of bit 3. -/
def add4 (x y : Nibble) (cin : Bool) : AluOut :=
  let t := x.toNat + y.toNat + carryIn cin
  aluOut (BitVec.ofNat 4 t) (decide (16 ≤ t))

/-- Binary subtraction of y and a borrow from x (R121): C is the borrow. -/
def sub4 (x y : Nibble) (cin : Bool) : AluOut :=
  let t : Int := (x.toNat : Int) - y.toNat - carryIn cin
  aluOut (BitVec.ofInt 4 t) (decide (t < 0))

/-- ADD: the old C is not added (R122). -/
def aluAdd : AluOp := fun _ x y => add4 x y false

/-- ADC (R130). -/
def aluAdc : AluOp := fun c x y => add4 x y c

/-- SUB, and CMP, which keeps only its flags (R138, R154). -/
def aluSub : AluOp := fun _ x y => sub4 x y false

/-- SBC (R146). -/
def aluSbc : AluOp := fun c x y => sub4 x y c

/-- ADC in radix n (R184). -/
def aluAdcRadix (n : Nat) : AluOp := fun c x y => nadd x y c n

/-- SBC in radix n (R191). -/
def aluSbcRadix (n : Nat) : AluOp := fun c x y => nsub x y c n

/-- INC in radix n: adds y, which is 1, and ignores the old C (R198). -/
def aluIncRadix (n : Nat) : AluOp := fun _ x y => nadd x y false n

/-- DEC in radix n: subtracts y, which is 1, and ignores the old C (R200). -/
def aluDecRadix (n : Nat) : AluOp := fun _ x y => nsub x y false n

/-- AND, BIT, CLR, TST: C stays (R21, R210). -/
def aluAnd : AluOp := fun c x y => aluOut (x &&& y) c

/-- OR, SET: C stays. -/
def aluOr : AluOp := fun c x y => aluOut (x ||| y) c

/-- XOR: C stays. -/
def aluXor : AluOp := fun c x y => aluOut (x ^^^ y) c

/-- SLL: 0 enters bit 0, bit 3 leaves to C (R250). So SLL right after SRL leaves C = 0 always, as the tables of R251, R254 and
R263 have it; R265 b, a consequence the spec marks as derived, says C = old x[3] there, and the model follows R250 (assumption
33, DEDUCED). -/
def aluSll : AluOp := fun _ x _ => aluOut (BitVec.ofNat 4 (2 * x.toNat)) (x.getLsbD 3)

/-- SRL: 0 enters bit 3, bit 0 leaves to C (R250). -/
def aluSrl : AluOp := fun _ x _ => aluOut (BitVec.ofNat 4 (x.toNat / 2)) (x.getLsbD 0)

/-- RL: the old C enters bit 0, bit 3 leaves to C (R250). -/
def aluRl : AluOp := fun c x _ => aluOut (BitVec.ofNat 4 (2 * x.toNat + carryIn c)) (x.getLsbD 3)

/-- RR: the old C enters bit 3, bit 0 leaves to C (R250). -/
def aluRr : AluOp := fun c x _ => aluOut (BitVec.ofNat 4 (x.toNat / 2 + 8 * carryIn c)) (x.getLsbD 0)

/-- The mask with bit `b` set that CLR, SET and TST work with (R247 to R249). -/
def bitMask (b : BitVec 2) : Nibble := BitVec.ofNat 4 (2 ^ b.toNat)

end Sys2Proof.Machine
end

