-- ==== Sys2Proof/Machine/Ops.lean ====
section
/-! DEFINITION. The named operations over registers and memory, how an instruction ends, the two stacks with the queue
register, the entry into an interrupt and the return from one, reset, and the fetch. -/

namespace Sys2Proof.Machine

/-! ### Sparse memories in canonical form -/

/-- The entry at an address, if it is listed. -/
def Cells.lookup {α : Type} : List (Nat × α) → Nat → Option α
  | [], _ => none
  | (k, v) :: t, a => if k = a then some v else Cells.lookup t a

/-- The list with the entry at `a` set, addresses kept rising. -/
def Cells.insert {α : Type} : List (Nat × α) → Nat → α → List (Nat × α)
  | [], a, v => [(a, v)]
  | (k, u) :: t, a, v =>
    if a < k then (a, v) :: (k, u) :: t
    else if a = k then (a, v) :: t
    else (k, u) :: Cells.insert t a v

/-- The addresses rise strictly from `lo` on and stay inside the 64K space. -/
def Cells.risingFrom {α : Type} : Nat → List (Nat × α) → Bool
  | _, [] => true
  | lo, (k, _) :: t => decide (lo ≤ k) && decide (k < 65536) && Cells.risingFrom (k + 1) t

/-- Data memory is in canonical form. An unlisted address holds no value, so no listed entry repeats what an unlisted
address reads as. -/
def Memory.wf (m : Memory) : Bool := Cells.risingFrom 0 m

/-- Program memory is in canonical form. -/
def ProgramMemory.wf (p : ProgramMemory) : Bool := Cells.risingFrom 0 p

/-! ### The data memory map -/

/-- The kind of the first region that holds an address (R6 `DATA_MAP`). -/
def kindIn : List Region → Nat → Option MemKind
  | [], _ => none
  | r :: rest, a => if r.base ≤ a ∧ a < r.base + r.size then some r.kind else kindIn rest a

/-- What is mounted at a data address (R6, R64). -/
def kindAt (c : Config) (a : Addr) : Option MemKind := kindIn c.dataMap a.toNat

/-- The four words from `a` lie in the 16-bit accessible RAM (R42, R45). -/
def inRam16 (c : Config) (a : Addr) : Bool := decide (c.ram16Lo ≤ a.toNat) && decide (a.toNat + 4 ≤ c.ram16Hi)

/-! ### Registers -/

/-- A or B. -/
def State.reg (s : State) (r : Reg) : Nibble :=
  match r with
  | .a => s.a
  | .b => s.b

/-- Write A or B. -/
def State.setReg (s : State) (r : Reg) (v : Nibble) : State :=
  match r with
  | .a => { s with a := v }
  | .b => { s with b := v }

/-- X or Y. -/
def State.idx (s : State) (i : Idx) : Addr :=
  match i with
  | .x => s.x
  | .y => s.y

/-- Write X or Y. -/
def State.setIdx (s : State) (i : Idx) (v : Addr) : State :=
  match i with
  | .x => { s with x := v }
  | .y => { s with y := v }

/-- X or Y advanced by `n` words, modulo 2^16 (R47, D5). -/
def State.bump (s : State) (i : Idx) (n : Addr) : State := s.setIdx i (s.idx i + n)

/-- The pair BA, B high (R11). -/
def State.ba (s : State) : Byte := s.b ++ s.a

/-- Write the pair BA (R8). -/
def State.setBA (s : State) (v : Byte) : State := { s with b := v.extractLsb' 4 4, a := v.extractLsb' 0 4 }

/-- Write F whole. -/
def State.setF (s : State) (v : Nibble) : State := { s with f := v }

/-- Write C and Z. -/
def State.setCZ (s : State) (c z : Bool) : State := { s with f := withCZ s.f c z }

/-- Write Z. -/
def State.setZ (s : State) (z : Bool) : State := { s with f := withZ s.f z }

/-- Replace data memory. -/
def State.setMem (s : State) (m : Memory) : State := { s with mem := m }

/-- Record an event of R331. -/
def State.emit (s : State) (e : Event) : State := { s with events := e :: s.events }

/-! ### Data memory accesses -/

/-- `io_read` (R52): the value and the peripheral's new state. -/
def ioRead (s : State) (a : Addr) : Nibble × Periph :=
  match s.cfg.io.readRow s.periph a with
  | some r => (r.value, r.after)
  | none => Config.freeIoRead s.cycles s.periph a

/-- `io_write` (R52): the peripheral's new state. -/
def ioWrite (s : State) (a : Addr) (v : Nibble) : Periph :=
  match s.cfg.io.writeRow s.periph a v with
  | some r => r.after
  | none => Config.freeIoWrite s.cycles s.periph a v

/-- The peripheral's state after a reset (R353). -/
def ioReset (s : State) : Periph :=
  match s.cfg.io.resets.find? fun r => r.1 == s.periph with
  | some r => r.2
  | none => Config.freeIoReset s.cycles s.periph

/-- One access to an I/O word: the peripheral's new state, and the access recorded (R52). -/
def State.ioAccess (s : State) (p : Periph) (e : Event) : State := { s with periph := p, events := e :: s.events }

/-- `MemRead(a, 1)` (R44, R52, R358): RAM and ROM give the word written there, an I/O word what `io_read` answers. -/
def readWord (s : State) (a : Addr) : Except Fault (Nibble × State) :=
  match kindAt s.cfg a with
  | none => .error (.unmappedRead a)
  | some .io => .ok ((ioRead s a).1, s.ioAccess (ioRead s a).2 (.ioRead a (ioRead s a).1))
  | some _ =>
    match Cells.lookup s.mem a.toNat with
    | some v => .ok (v, s)
    | none => .error (.undefinedRead a)

/-- `MemWrite(a, 1, v)` (R45, R52). -/
def writeWord (s : State) (a : Addr) (v : Nibble) : Except Fault State :=
  match kindAt s.cfg a with
  | some .ram => .ok (s.setMem (Cells.insert s.mem a.toNat v))
  | some .io => .ok (s.ioAccess (ioWrite s a v) (.ioWrite a v))
  | _ => .error (.unmappedWrite a)

/-- Digit `k` of a 16-bit value, digit 0 the least significant. -/
def digit (v : Addr) (k : Nat) : Nibble := v.extractLsb' (4 * k) 4

/-- The four words of a 16-bit entry, bits 3 to 0 at the lowest address (R45, D1). -/
def insert16 (m : Memory) (a : Nat) (v : Addr) : Memory :=
  Cells.insert (Cells.insert (Cells.insert (Cells.insert m a (digit v 0)) (a + 1) (digit v 1)) (a + 2) (digit v 2)) (a + 3)
    (digit v 3)

/-- The 16-bit value of four words, if each has been written (R44, R358). -/
def lookup16 (m : Memory) (a : Nat) : Option Addr :=
  match Cells.lookup m a, Cells.lookup m (a + 1), Cells.lookup m (a + 2), Cells.lookup m (a + 3) with
  | some d0, some d1, some d2, some d3 => some (d3 ++ d2 ++ d1 ++ d0)
  | _, _, _, _ => none

/-! ### Stack addresses (R49) -/

/-- The data address of an SP1 value, `SP1 * 4` (R28). -/
def eaSp1 (p : Byte) : Addr := BitVec.ofNat 16 (p.toNat * 4)

/-- The data address of an SP2 value, `00H:SP2` (R29). -/
def eaSp2 (p : Byte) : Addr := BitVec.ofNat 16 p.toNat

/-! ### The stacks and the queue register -/

/-- `Push4(v)` (R381 g): the word below SP2 must be RAM (R290 i). -/
def push4 (v : Nibble) (s : State) : Except Fault State :=
  if kindAt s.cfg (eaSp2 (s.sp2 - 1#8)) = some .ram then
    .ok { s with sp2 := s.sp2 - 1#8, mem := Cells.insert s.mem (eaSp2 (s.sp2 - 1#8)).toNat v }
  else .error (.unmappedWrite (eaSp2 (s.sp2 - 1#8)))

/-- `Pop4()` (R381 g): the word SP2 points to must be RAM (R290 i) that something has written (R358). -/
def pop4 (s : State) : Except Fault (Nibble × State) :=
  if kindAt s.cfg (eaSp2 s.sp2) = some .ram then
    match Cells.lookup s.mem (eaSp2 s.sp2).toNat with
    | some v => .ok (v, { s with sp2 := s.sp2 + 1#8 })
    | none => .error (.undefinedRead (eaSp2 s.sp2))
  else .error (.unmappedRead (eaSp2 s.sp2))

/-- `Push16(v)` (R381 e, R30 case 1): memory and Q together. -/
def push16 (v : Addr) (s : State) : Except Fault State :=
  if inRam16 s.cfg (eaSp1 (s.sp1 - 1#8)) then
    .ok { s with sp1 := s.sp1 - 1#8, q := some v, mem := insert16 s.mem (eaSp1 (s.sp1 - 1#8)).toNat v }
  else .error (.stack16OutsideRam16 (eaSp1 (s.sp1 - 1#8)))

/-- SP1 set to `p` and Q refilled from the entry there (R30 cases 2 and 3); words nothing has written leave Q unwritten and raise
nothing (R358). -/
def setSp1 (p : Byte) (s : State) : Except Fault State :=
  if inRam16 s.cfg (eaSp1 p) then .ok { s with sp1 := p, q := lookup16 s.mem (eaSp1 p).toNat }
  else .error (.stack16OutsideRam16 (eaSp1 p))

/-- `Pop16()` (R381 f, R30 case 2): the value is Q's, then Q is refilled. -/
def pop16 (s : State) : Except Fault (Addr × State) :=
  match s.q with
  | none => .error .undefinedQueue
  | some v => do
    let s1 ← setSp1 (s.sp1 + 1#8) s
    .ok (v, s1)

/-- The pair mask after `LDB %sp,%BA` (R32, D9). -/
def pairMaskAfter (m : PairMask) (which : StackPtr) : PairMask :=
  match m with
  | .oneSet w => if w = which then .oneSet w else .pairSet
  | _ => .oneSet which

/-! ### How an instruction ends -/

/-- An instruction's end at `target` (R17, R24, R33, R365): E cleared, `defer` cleared, its cycles counted. -/
def State.retireTo (s : State) (cyc : Nat) (target : Addr) : State :=
  { s with pc := target, f := withE s.f false, defer := false, cycles := s.cycles + cyc }

/-- An instruction's end at the next address (R17). -/
def State.retire (s : State) (cyc : Nat) : State := s.retireTo cyc (s.pc + 1#16)

/-- The end of one of the nine instructions that may leave E = 1 (R24, R33): F as given, `defer` set. -/
def State.retireF (s : State) (cyc : Nat) (target : Addr) (v : Nibble) : State :=
  { s with pc := target, f := v, defer := true, cycles := s.cycles + cyc }

/-- The end of `LDB %sp,%BA` (R32, R33, R282): E cleared, `defer` set, the pair mask moved on. -/
def State.retireSp (s : State) (cyc : Nat) (which : StackPtr) : State :=
  { s with
    pc := s.pc + 1#16, f := withE s.f false, defer := true, pairMask := pairMaskAfter s.pairMask which,
    cycles := s.cycles + cyc }

/-- A result as an outcome of a step. -/
def finish (r : Except Fault State) : Host.Outcome State Fault Refusal :=
  match r with
  | .ok s => .next s
  | .error e => .fault e

/-- An EXT-invalid instruction: with E = 1 at the start it is the model fault `ExtMisuse` (R27, D6). -/
def extInvalid (s : State) (r : Except Fault State) : Host.Outcome State Fault Refusal :=
  if flagE s.f then .fault (.extMisuse s.pc (Cells.lookup s.prog s.pc.toNat)) else finish r

/-! ### Interrupt entry and return -/

/-- What every interrupt saves (R57, R308, R398): F on the SP2 stack, then the return address on the SP1 stack. -/
def saveContext (ret : Addr) (s : State) : Except Fault State := do
  let s1 ← push4 s.f s
  push16 ret s1

/-- Hardware interrupt entry at vector `v` (R308, R310): F and PC saved, I and E cleared, PC at 0100H + v, standby left, 3 bus
cycles. -/
def enterInterrupt (v : Nibble) (s : State) : Except Fault State := do
  let s1 ← saveContext s.pc s
  .ok { s1 with
    pc := 0x0100#16 + v.setWidth 16, f := withE (withI s1.f false) false, run := .run, defer := false,
    cycles := s1.cycles + 3 }

/-- Return from an interrupt (R315, R397): PC from Q and Q refilled, then all of F from the SP2 stack; `defer` set. -/
def returnFromInterrupt (s : State) : Except Fault State := do
  let (ret, s1) ← pop16 s
  let (v, s2) ← pop4 s1
  .ok (s2.retireF 2 ret v)

/-- The boundary takes its input: the next one is the list's second, and SR is high unless the input says otherwise (R330). An
NMI edge that the input reports then counts as one after the reset (assumption 35). -/
def State.takeInput (s : State) : State := { s with inputs := s.inputs.tail, inReset := false }

/-- `ResetEvent` during a run (R350, R351, R353): the registers as at power-on, the core in reset status, memories, parameters
and what the environment has seen kept, the peripheral circuits as they make of it. -/
def resetEvent (s : State) : State :=
  { State.reset with
    prog := s.prog, mem := s.mem, cfg := s.cfg, inputs := s.inputs, events := s.events, periph := ioReset s,
    cycles := s.cycles, inReset := true }

/-! ### Fetch -/

/-- `ProgRead(PC)` (R43, D10). -/
def fetch (s : State) : Except Fault PWord :=
  if s.pc.toNat < s.cfg.romWords then
    match Cells.lookup s.prog s.pc.toNat with
    | some w => .ok w
    | none => .error (.unmappedFetch s.pc)
  else .error (.unmappedFetch s.pc)

/-- The state with a word stored where the next instruction is fetched, and nothing that could keep the next step from
fetching it: the word's address exists, the core runs, no event is offered or latched. -/
def placeWord (s : State) (w : PWord) : State :=
  { s with
    prog := Cells.insert s.prog s.pc.toNat w, cfg := { s.cfg with romWords := max s.cfg.romWords (s.pc.toNat + 1) },
    run := .run, inputs := [], nmiPending := false }

end Sys2Proof.Machine
end

