-- ==== Sys2Proof/Machine/Operands.lean ====
section
/-! DEFINITION. Operands and the operand forms: where an operand is, and the shared operation of every form that several
instructions have (spec/20_memory.md R46 to R56, spec/41_arithmetic.md R120, spec/43_logic.md R210). -/

namespace Sys2Proof.Machine

/-! ### Effective addresses and extended operands -/

/-- `ea([%ir])` (R46): the index register, or with E = 1 the word `00:EXT` for X and `FF:EXT` for Y. -/
def eaInd (s : State) (i : Idx) : Addr :=
  if flagE s.f then
    match i with
    | .x => 0x00#8 ++ s.ext
    | .y => 0xFF#8 ++ s.ext
  else s.idx i

/-- `ea([00addr6])` (R48). -/
def ea00 (a : BitVec 6) : Addr := a.setWidth 16

/-- `ea([FFaddr6])` (R48). -/
def eaFF (a : BitVec 6) : Addr := 0xFFC0#16 + a.setWidth 16

/-- A `sign8` operand as a 16-bit value (R26, R284, R380): sign-extended, or with E = 1 the low byte under EXT. -/
def signOperand (s : State) (d : Byte) : Addr := if flagE s.f then s.ext ++ d else d.signExtend 16

/-- The value `CMP %ir,imm8` compares with (R285): imm8, or with E = 1 imm8 under the complement of EXT. -/
def cmpOperand (s : State) (k : Byte) : Addr := if flagE s.f then (~~~s.ext) ++ k else 0x00#8 ++ k

/-- The target of a relative branch with displacement `d` (R15, R380). -/
def branchTarget (s : State) (d : Addr) : Addr := s.pc + 1#16 + d

/-! ### 4-bit transfers -/

/-- The register takes a value; no flag but E changes (R101, R102). -/
def putReg (r : Reg) (v : Nibble) (s : State) : Host.Outcome State Fault Refusal :=
  extInvalid s (.ok ((s.setReg r v).retire 1))

/-- F takes a value whole (R101, R102, R220, R229, R238). -/
def putF (v : Nibble) (s : State) : Host.Outcome State Fault Refusal :=
  extInvalid s (.ok (s.retireF 1 (s.pc + 1#16) v))

/-- `LD %r,[%ir]` (R103). -/
def loadMem (r : Reg) (i : Idx) (s : State) : Host.Outcome State Fault Refusal :=
  finish do
    let (v, s1) ← readWord s (eaInd s i)
    .ok ((s1.setReg r v).retire 1)

/-- `LD %r,[%ir]+` (R104). -/
def loadMemInc (r : Reg) (i : Idx) (s : State) : Host.Outcome State Fault Refusal :=
  extInvalid s do
    let (v, s1) ← readWord s (s.idx i)
    .ok (((s1.setReg r v).bump i 1#16).retire 1)

/-- `LD [%ir],…` (R105, R107). -/
def storeMem (i : Idx) (v : Nibble) (s : State) : Host.Outcome State Fault Refusal :=
  finish do
    let s1 ← writeWord s (eaInd s i) v
    .ok (s1.retire 1)

/-- `LD [%ir]+,…` (R106, R108). -/
def storeMemInc (i : Idx) (v : Nibble) (s : State) : Host.Outcome State Fault Refusal :=
  extInvalid s do
    let s1 ← writeWord s (s.idx i) v
    .ok ((s1.bump i 1#16).retire 1)

/-- `LD [%ir],[%ir']` and its post-increment variants (R112 to R115): read at the source, write at the destination, then the
increments, each 0 or 1. -/
def copyMem (dst : Idx) (dstInc : Addr) (src : Idx) (srcInc : Addr) (s : State) : Host.Outcome State Fault Refusal :=
  extInvalid s do
    let (v, s1) ← readWord s (s.idx src)
    let s2 ← writeWord s1 (s.idx dst) v
    .ok (((s2.bump dst dstInc).bump src srcInc).retire 2)

/-- `EX %r,` with the word at `a`: read, then write (R55, R110). -/
def exchangeAt (r : Reg) (a : Addr) (s : State) : Except Fault State := do
  let (v, s1) ← readWord s a
  let s2 ← writeWord s1 a (s.reg r)
  .ok (s2.setReg r v)

/-- `EX %r,[%ir]` (R110). -/
def exchangeMem (r : Reg) (i : Idx) (s : State) : Host.Outcome State Fault Refusal :=
  finish do
    let s1 ← exchangeAt r (eaInd s i) s
    .ok (s1.retire 2)

/-- `EX %r,[%ir]+` (R111). -/
def exchangeMemInc (r : Reg) (i : Idx) (s : State) : Host.Outcome State Fault Refusal :=
  extInvalid s do
    let s1 ← exchangeAt r (s.idx i) s
    .ok ((s1.bump i 1#16).retire 2)

/-! ### 4-bit operations with a register destination -/

/-- The register takes the result, C and Z the flags. -/
def aluReg (op : AluOp) (r : Reg) (y : Nibble) (s : State) : State :=
  let o := op (flagC s.f) (s.reg r) y
  (s.setReg r o.res).setCZ o.c o.z

/-- Only C and Z change: the result of CMP and BIT is discarded. -/
def aluTest (op : AluOp) (x y : Nibble) (s : State) : State :=
  let o := op (flagC s.f) x y
  s.setCZ o.c o.z

/-- `%r` with a register, an immediate, or nothing. -/
def regForm (cyc : Nat) (op : AluOp) (r : Reg) (y : Nibble) (s : State) : Host.Outcome State Fault Refusal :=
  extInvalid s (.ok ((aluReg op r y s).retire cyc))

/-- `%r,[%ir]`. -/
def regMemForm (cyc : Nat) (op : AluOp) (r : Reg) (i : Idx) (s : State) : Host.Outcome State Fault Refusal :=
  finish do
    let (y, s1) ← readWord s (eaInd s i)
    .ok ((aluReg op r y s1).retire cyc)

/-- `%r,[%ir]+`. -/
def regMemIncForm (cyc : Nat) (op : AluOp) (r : Reg) (i : Idx) (s : State) : Host.Outcome State Fault Refusal :=
  extInvalid s do
    let (y, s1) ← readWord s (s.idx i)
    .ok (((aluReg op r y s1).bump i 1#16).retire cyc)

/-- CMP and BIT: `%r` with a register or an immediate. -/
def regTest (op : AluOp) (r : Reg) (y : Nibble) (s : State) : Host.Outcome State Fault Refusal :=
  extInvalid s (.ok ((aluTest op (s.reg r) y s).retire 1))

/-- CMP and BIT: `%r,[%ir]`. -/
def regMemTest (op : AluOp) (r : Reg) (i : Idx) (s : State) : Host.Outcome State Fault Refusal :=
  finish do
    let (y, s1) ← readWord s (eaInd s i)
    .ok ((aluTest op (s.reg r) y s1).retire 1)

/-- CMP and BIT: `%r,[%ir]+`. -/
def regMemIncTest (op : AluOp) (r : Reg) (i : Idx) (s : State) : Host.Outcome State Fault Refusal :=
  extInvalid s do
    let (y, s1) ← readWord s (s.idx i)
    .ok (((aluTest op (s.reg r) y s1).bump i 1#16).retire 1)

/-! ### 4-bit operations with a memory destination -/

/-- Read the word at `a`, write the result back there, set C and Z (R55). -/
def modifyAt (op : AluOp) (a : Addr) (y : Nibble) (s : State) : Except Fault State := do
  let (x, s1) ← readWord s a
  let o := op (flagC s.f) x y
  let s2 ← writeWord s1 a o.res
  .ok (s2.setCZ o.c o.z)

/-- Read the word at `a`, set C and Z (R54). -/
def testAt (op : AluOp) (a : Addr) (y : Nibble) (s : State) : Except Fault State := do
  let (x, s1) ← readWord s a
  .ok (aluTest op x y s1)

/-- `[%ir],…`. -/
def memForm (cyc : Nat) (op : AluOp) (i : Idx) (y : Nibble) (s : State) : Host.Outcome State Fault Refusal :=
  finish do
    let s1 ← modifyAt op (eaInd s i) y s
    .ok (s1.retire cyc)

/-- `[%ir]+,…`. -/
def memIncForm (cyc : Nat) (op : AluOp) (i : Idx) (y : Nibble) (s : State) : Host.Outcome State Fault Refusal :=
  extInvalid s do
    let s1 ← modifyAt op (s.idx i) y s
    .ok ((s1.bump i 1#16).retire cyc)

/-- CMP and BIT: `[%ir],…`. -/
def memTest (op : AluOp) (i : Idx) (y : Nibble) (s : State) : Host.Outcome State Fault Refusal :=
  finish do
    let s1 ← testAt op (eaInd s i) y s
    .ok (s1.retire 1)

/-- CMP and BIT: `[%ir]+,…`. -/
def memIncTest (op : AluOp) (i : Idx) (y : Nibble) (s : State) : Host.Outcome State Fault Refusal :=
  extInvalid s do
    let s1 ← testAt op (s.idx i) y s
    .ok ((s1.bump i 1#16).retire 1)

/-- `INC`, `DEC`, `CLR`, `SET` of a 6-bit absolute address (R162, R163, R247, R248). -/
def absForm (op : AluOp) (a : Addr) (y : Nibble) (s : State) : Host.Outcome State Fault Refusal :=
  extInvalid s do
    let s1 ← modifyAt op a y s
    .ok (s1.retire 2)

/-- `TST` of a 6-bit absolute address (R249). -/
def absTest (op : AluOp) (a : Addr) (y : Nibble) (s : State) : Host.Outcome State Fault Refusal :=
  extInvalid s do
    let s1 ← testAt op a y s
    .ok (s1.retire 1)

/-! ### 8-bit and 16-bit operations -/

/-- BA takes a value (R271, R273 to R275). -/
def putBA (v : Byte) (s : State) : Host.Outcome State Fault Refusal := extInvalid s (.ok ((s.setBA v).retire 1))

/-- Two consecutive words, the low-order one at the lower address (R53, R56). -/
def read2 (a : Addr) (s : State) : Except Fault (Byte × State) := do
  let (lo, s1) ← readWord s a
  let (hi, s2) ← readWord s1 (a + 1#16)
  .ok (hi ++ lo, s2)

/-- Two consecutive words written, the low-order one first (R53, R56). -/
def write2 (a : Addr) (v : Byte) (s : State) : Except Fault State := do
  let s1 ← writeWord s a (v.extractLsb' 0 4)
  writeWord s1 (a + 1#16) (v.extractLsb' 4 4)

/-- `LDB %BA,[%ir]+` (R272). -/
def loadBA (i : Idx) (s : State) : Host.Outcome State Fault Refusal :=
  extInvalid s do
    let (v, s1) ← read2 (s.idx i) s
    .ok (((s1.setBA v).bump i 2#16).retire 2)

/-- `LDB [%ir]+,…` (R276, R277). -/
def store2 (i : Idx) (v : Byte) (s : State) : Host.Outcome State Fault Refusal :=
  extInvalid s do
    let s1 ← write2 (s.idx i) v s
    .ok ((s1.bump i 2#16).retire 2)

/-- EXT takes a value, E becomes 1, `defer` is set (R278, R279). -/
def putExt (v : Byte) (s : State) : Host.Outcome State Fault Refusal :=
  extInvalid s (.ok ({ s with ext := v }.retireF 1 (s.pc + 1#16) (withE s.f true)))

/-- `LDB %XL,imm8`, `LDB %YL,imm8` (R280): the low byte, or with E = 1 the whole register with EXT above. -/
def putLow (i : Idx) (v : Byte) (s : State) : Host.Outcome State Fault Refusal :=
  .next ((s.setIdx i ((if flagE s.f then s.ext else (s.idx i).extractLsb' 8 8) ++ v)).retire 1)

/-- The low byte of X or Y takes BA (R281). -/
def putLowBA (i : Idx) (s : State) : Host.Outcome State Fault Refusal :=
  extInvalid s (.ok ((s.setIdx i ((s.idx i).extractLsb' 8 8 ++ s.ba)).retire 1))

/-- The high byte of X or Y takes BA (R281). -/
def putHighBA (i : Idx) (s : State) : Host.Outcome State Fault Refusal :=
  extInvalid s (.ok ((s.setIdx i (s.ba ++ (s.idx i).extractLsb' 0 8)).retire 1))

/-- `ir + d` with Z from the 16-bit sum and C left alone (R283, R284). -/
def addIdx (i : Idx) (d : Addr) (s : State) : State := (s.setIdx i (s.idx i + d)).setZ (decide (s.idx i + d = 0#16))

/-- `CMP %ir,imm8` (R285): C is the borrow and Z the equality of the 16-bit values. -/
def cmpIdx (i : Idx) (k : Byte) (s : State) : Host.Outcome State Fault Refusal :=
  let v := cmpOperand s k
  .next ((s.setCZ (decide ((s.idx i).toNat < v.toNat)) (decide (s.idx i = v))).retire 1)

/-- `LDB %SP1,%BA` (R282). -/
def putSp1BA (s : State) : Host.Outcome State Fault Refusal :=
  extInvalid s do
    let s1 ← setSp1 s.ba s
    .ok (s1.retireSp 1 .sp1)

/-- `LDB %SP2,%BA` (R282). -/
def putSp2BA (s : State) : Host.Outcome State Fault Refusal := extInvalid s (.ok ({ s with sp2 := s.ba }.retireSp 1 .sp2))

/-- `INC %SP1`, `DEC %SP1` (R286, R287): Z from the 8-bit result, C left alone, Q refilled. -/
def stepSp1 (p : Byte) (s : State) : Host.Outcome State Fault Refusal :=
  extInvalid s do
    let s1 ← setSp1 p s
    .ok ((s1.setZ (decide (p = 0#8))).retire 1)

/-- `INC %SP2`, `DEC %SP2` (R286, R287). -/
def stepSp2 (p : Byte) (s : State) : Host.Outcome State Fault Refusal :=
  extInvalid s (.ok (({ s with sp2 := p }.setZ (decide (p = 0#8))).retire 1))

/-! ### Stack instructions -/

/-- `PUSH %r`, `PUSH %F` (R291). -/
def pushNibble (v : Nibble) (s : State) : Host.Outcome State Fault Refusal :=
  extInvalid s do
    let s1 ← push4 v s
    .ok (s1.retire 1)

/-- `POP %r` (R292). -/
def popReg (r : Reg) (s : State) : Host.Outcome State Fault Refusal :=
  extInvalid s do
    let (v, s1) ← pop4 s
    .ok ((s1.setReg r v).retire 1)

/-- `PUSH %ir` (R294). -/
def pushIdx (i : Idx) (s : State) : Host.Outcome State Fault Refusal :=
  extInvalid s do
    let s1 ← push16 (s.idx i) s
    .ok (s1.retire 1)

/-- `POP %ir` (R295). -/
def popIdx (i : Idx) (s : State) : Host.Outcome State Fault Refusal :=
  extInvalid s do
    let (v, s1) ← pop16 s
    .ok ((s1.setIdx i v).retire 1)

/-! ### Branches -/

/-- A relative jump with a `sign8` operand, taken or not (R382, R386 to R389): E is consumed either way. -/
def jumpIf (taken : Bool) (d : Byte) (s : State) : Host.Outcome State Fault Refusal :=
  .next (s.retireTo 1 (if taken then branchTarget s (signOperand s d) else s.pc + 1#16))

/-- A jump to a target computed from registers (R383, R384, R390). -/
def jumpTo (target : Addr) (s : State) : Host.Outcome State Fault Refusal := extInvalid s (.ok (s.retireTo 1 target))

end Sys2Proof.Machine
end

