-- ==== Sys2Proof/Machine/Arith.lean ====
section
/-! DEFINITION. The meanings of 4-bit arithmetic: ADD, ADC, SUB, SBC, CMP, INC and DEC of [addr6] (spec/41_arithmetic.md R120 to R165). -/

namespace Sys2Proof.Machine

/-- `ADD %A,%A` (R122). -/
def execAddAA (s : State) : Host.Outcome State Fault Refusal := regForm 1 aluAdd .a s.a s

/-- `ADD %A,%B` (R122). -/
def execAddAB (s : State) : Host.Outcome State Fault Refusal := regForm 1 aluAdd .a s.b s

/-- `ADD %B,%A` (R122). -/
def execAddBA (s : State) : Host.Outcome State Fault Refusal := regForm 1 aluAdd .b s.a s

/-- `ADD %B,%B` (R122). -/
def execAddBB (s : State) : Host.Outcome State Fault Refusal := regForm 1 aluAdd .b s.b s

/-- `ADD %A,imm4` (R123). -/
def execAddAImm4 (i : Nibble) (s : State) : Host.Outcome State Fault Refusal := regForm 1 aluAdd .a i s

/-- `ADD %B,imm4` (R123). -/
def execAddBImm4 (i : Nibble) (s : State) : Host.Outcome State Fault Refusal := regForm 1 aluAdd .b i s

/-- `ADD %A,[%X]` (R124). -/
def execAddAMemX (s : State) : Host.Outcome State Fault Refusal := regMemForm 1 aluAdd .a .x s

/-- `ADD %A,[%Y]` (R124). -/
def execAddAMemY (s : State) : Host.Outcome State Fault Refusal := regMemForm 1 aluAdd .a .y s

/-- `ADD %B,[%X]` (R124). -/
def execAddBMemX (s : State) : Host.Outcome State Fault Refusal := regMemForm 1 aluAdd .b .x s

/-- `ADD %B,[%Y]` (R124). -/
def execAddBMemY (s : State) : Host.Outcome State Fault Refusal := regMemForm 1 aluAdd .b .y s

/-- `ADD %A,[%X]+` (R125). -/
def execAddAMemXInc (s : State) : Host.Outcome State Fault Refusal := regMemIncForm 1 aluAdd .a .x s

/-- `ADD %A,[%Y]+` (R125). -/
def execAddAMemYInc (s : State) : Host.Outcome State Fault Refusal := regMemIncForm 1 aluAdd .a .y s

/-- `ADD %B,[%X]+` (R125). -/
def execAddBMemXInc (s : State) : Host.Outcome State Fault Refusal := regMemIncForm 1 aluAdd .b .x s

/-- `ADD %B,[%Y]+` (R125). -/
def execAddBMemYInc (s : State) : Host.Outcome State Fault Refusal := regMemIncForm 1 aluAdd .b .y s

/-- `ADD [%X],%A` (R126). -/
def execAddMemXA (s : State) : Host.Outcome State Fault Refusal := memForm 2 aluAdd .x s.a s

/-- `ADD [%X],%B` (R126). -/
def execAddMemXB (s : State) : Host.Outcome State Fault Refusal := memForm 2 aluAdd .x s.b s

/-- `ADD [%Y],%A` (R126). -/
def execAddMemYA (s : State) : Host.Outcome State Fault Refusal := memForm 2 aluAdd .y s.a s

/-- `ADD [%Y],%B` (R126). -/
def execAddMemYB (s : State) : Host.Outcome State Fault Refusal := memForm 2 aluAdd .y s.b s

/-- `ADD [%X]+,%A` (R127). -/
def execAddMemXIncA (s : State) : Host.Outcome State Fault Refusal := memIncForm 2 aluAdd .x s.a s

/-- `ADD [%X]+,%B` (R127). -/
def execAddMemXIncB (s : State) : Host.Outcome State Fault Refusal := memIncForm 2 aluAdd .x s.b s

/-- `ADD [%Y]+,%A` (R127). -/
def execAddMemYIncA (s : State) : Host.Outcome State Fault Refusal := memIncForm 2 aluAdd .y s.a s

/-- `ADD [%Y]+,%B` (R127). -/
def execAddMemYIncB (s : State) : Host.Outcome State Fault Refusal := memIncForm 2 aluAdd .y s.b s

/-- `ADD [%X],imm4` (R128). -/
def execAddMemXImm4 (i : Nibble) (s : State) : Host.Outcome State Fault Refusal := memForm 2 aluAdd .x i s

/-- `ADD [%Y],imm4` (R128). -/
def execAddMemYImm4 (i : Nibble) (s : State) : Host.Outcome State Fault Refusal := memForm 2 aluAdd .y i s

/-- `ADD [%X]+,imm4` (R129). -/
def execAddMemXIncImm4 (i : Nibble) (s : State) : Host.Outcome State Fault Refusal := memIncForm 2 aluAdd .x i s

/-- `ADD [%Y]+,imm4` (R129). -/
def execAddMemYIncImm4 (i : Nibble) (s : State) : Host.Outcome State Fault Refusal := memIncForm 2 aluAdd .y i s

/-- `ADC %A,%A` (R130). -/
def execAdcAA (s : State) : Host.Outcome State Fault Refusal := regForm 1 aluAdc .a s.a s

/-- `ADC %A,%B` (R130). -/
def execAdcAB (s : State) : Host.Outcome State Fault Refusal := regForm 1 aluAdc .a s.b s

/-- `ADC %B,%A` (R130). -/
def execAdcBA (s : State) : Host.Outcome State Fault Refusal := regForm 1 aluAdc .b s.a s

/-- `ADC %B,%B` (R130). -/
def execAdcBB (s : State) : Host.Outcome State Fault Refusal := regForm 1 aluAdc .b s.b s

/-- `ADC %A,imm4` (R131). -/
def execAdcAImm4 (i : Nibble) (s : State) : Host.Outcome State Fault Refusal := regForm 1 aluAdc .a i s

/-- `ADC %B,imm4` (R131). -/
def execAdcBImm4 (i : Nibble) (s : State) : Host.Outcome State Fault Refusal := regForm 1 aluAdc .b i s

/-- `ADC %A,[%X]` (R132). -/
def execAdcAMemX (s : State) : Host.Outcome State Fault Refusal := regMemForm 1 aluAdc .a .x s

/-- `ADC %A,[%Y]` (R132). -/
def execAdcAMemY (s : State) : Host.Outcome State Fault Refusal := regMemForm 1 aluAdc .a .y s

/-- `ADC %B,[%X]` (R132). -/
def execAdcBMemX (s : State) : Host.Outcome State Fault Refusal := regMemForm 1 aluAdc .b .x s

/-- `ADC %B,[%Y]` (R132). -/
def execAdcBMemY (s : State) : Host.Outcome State Fault Refusal := regMemForm 1 aluAdc .b .y s

/-- `ADC %A,[%X]+` (R133). -/
def execAdcAMemXInc (s : State) : Host.Outcome State Fault Refusal := regMemIncForm 1 aluAdc .a .x s

/-- `ADC %A,[%Y]+` (R133). -/
def execAdcAMemYInc (s : State) : Host.Outcome State Fault Refusal := regMemIncForm 1 aluAdc .a .y s

/-- `ADC %B,[%X]+` (R133). -/
def execAdcBMemXInc (s : State) : Host.Outcome State Fault Refusal := regMemIncForm 1 aluAdc .b .x s

/-- `ADC %B,[%Y]+` (R133). -/
def execAdcBMemYInc (s : State) : Host.Outcome State Fault Refusal := regMemIncForm 1 aluAdc .b .y s

/-- `ADC [%X],%A` (R134). -/
def execAdcMemXA (s : State) : Host.Outcome State Fault Refusal := memForm 2 aluAdc .x s.a s

/-- `ADC [%X],%B` (R134). -/
def execAdcMemXB (s : State) : Host.Outcome State Fault Refusal := memForm 2 aluAdc .x s.b s

/-- `ADC [%Y],%A` (R134). -/
def execAdcMemYA (s : State) : Host.Outcome State Fault Refusal := memForm 2 aluAdc .y s.a s

/-- `ADC [%Y],%B` (R134). -/
def execAdcMemYB (s : State) : Host.Outcome State Fault Refusal := memForm 2 aluAdc .y s.b s

/-- `ADC [%X]+,%A` (R135). -/
def execAdcMemXIncA (s : State) : Host.Outcome State Fault Refusal := memIncForm 2 aluAdc .x s.a s

/-- `ADC [%X]+,%B` (R135). -/
def execAdcMemXIncB (s : State) : Host.Outcome State Fault Refusal := memIncForm 2 aluAdc .x s.b s

/-- `ADC [%Y]+,%A` (R135). -/
def execAdcMemYIncA (s : State) : Host.Outcome State Fault Refusal := memIncForm 2 aluAdc .y s.a s

/-- `ADC [%Y]+,%B` (R135). -/
def execAdcMemYIncB (s : State) : Host.Outcome State Fault Refusal := memIncForm 2 aluAdc .y s.b s

/-- `ADC [%X],imm4` (R136). -/
def execAdcMemXImm4 (i : Nibble) (s : State) : Host.Outcome State Fault Refusal := memForm 2 aluAdc .x i s

/-- `ADC [%Y],imm4` (R136). -/
def execAdcMemYImm4 (i : Nibble) (s : State) : Host.Outcome State Fault Refusal := memForm 2 aluAdc .y i s

/-- `ADC [%X]+,imm4` (R137). -/
def execAdcMemXIncImm4 (i : Nibble) (s : State) : Host.Outcome State Fault Refusal := memIncForm 2 aluAdc .x i s

/-- `ADC [%Y]+,imm4` (R137). -/
def execAdcMemYIncImm4 (i : Nibble) (s : State) : Host.Outcome State Fault Refusal := memIncForm 2 aluAdc .y i s

/-- `SUB %A,%A` (R138). -/
def execSubAA (s : State) : Host.Outcome State Fault Refusal := regForm 1 aluSub .a s.a s

/-- `SUB %A,%B` (R138). -/
def execSubAB (s : State) : Host.Outcome State Fault Refusal := regForm 1 aluSub .a s.b s

/-- `SUB %B,%A` (R138). -/
def execSubBA (s : State) : Host.Outcome State Fault Refusal := regForm 1 aluSub .b s.a s

/-- `SUB %B,%B` (R138). -/
def execSubBB (s : State) : Host.Outcome State Fault Refusal := regForm 1 aluSub .b s.b s

/-- `SUB %A,imm4` (R139). -/
def execSubAImm4 (i : Nibble) (s : State) : Host.Outcome State Fault Refusal := regForm 1 aluSub .a i s

/-- `SUB %B,imm4` (R139). -/
def execSubBImm4 (i : Nibble) (s : State) : Host.Outcome State Fault Refusal := regForm 1 aluSub .b i s

/-- `SUB %A,[%X]` (R140). -/
def execSubAMemX (s : State) : Host.Outcome State Fault Refusal := regMemForm 1 aluSub .a .x s

/-- `SUB %A,[%Y]` (R140). -/
def execSubAMemY (s : State) : Host.Outcome State Fault Refusal := regMemForm 1 aluSub .a .y s

/-- `SUB %B,[%X]` (R140). -/
def execSubBMemX (s : State) : Host.Outcome State Fault Refusal := regMemForm 1 aluSub .b .x s

/-- `SUB %B,[%Y]` (R140). -/
def execSubBMemY (s : State) : Host.Outcome State Fault Refusal := regMemForm 1 aluSub .b .y s

/-- `SUB %A,[%X]+` (R141). -/
def execSubAMemXInc (s : State) : Host.Outcome State Fault Refusal := regMemIncForm 1 aluSub .a .x s

/-- `SUB %A,[%Y]+` (R141). -/
def execSubAMemYInc (s : State) : Host.Outcome State Fault Refusal := regMemIncForm 1 aluSub .a .y s

/-- `SUB %B,[%X]+` (R141). -/
def execSubBMemXInc (s : State) : Host.Outcome State Fault Refusal := regMemIncForm 1 aluSub .b .x s

/-- `SUB %B,[%Y]+` (R141). -/
def execSubBMemYInc (s : State) : Host.Outcome State Fault Refusal := regMemIncForm 1 aluSub .b .y s

/-- `SUB [%X],%A` (R142). -/
def execSubMemXA (s : State) : Host.Outcome State Fault Refusal := memForm 2 aluSub .x s.a s

/-- `SUB [%X],%B` (R142). -/
def execSubMemXB (s : State) : Host.Outcome State Fault Refusal := memForm 2 aluSub .x s.b s

/-- `SUB [%Y],%A` (R142). -/
def execSubMemYA (s : State) : Host.Outcome State Fault Refusal := memForm 2 aluSub .y s.a s

/-- `SUB [%Y],%B` (R142). -/
def execSubMemYB (s : State) : Host.Outcome State Fault Refusal := memForm 2 aluSub .y s.b s

/-- `SUB [%X]+,%A` (R143). -/
def execSubMemXIncA (s : State) : Host.Outcome State Fault Refusal := memIncForm 2 aluSub .x s.a s

/-- `SUB [%X]+,%B` (R143). -/
def execSubMemXIncB (s : State) : Host.Outcome State Fault Refusal := memIncForm 2 aluSub .x s.b s

/-- `SUB [%Y]+,%A` (R143). -/
def execSubMemYIncA (s : State) : Host.Outcome State Fault Refusal := memIncForm 2 aluSub .y s.a s

/-- `SUB [%Y]+,%B` (R143). -/
def execSubMemYIncB (s : State) : Host.Outcome State Fault Refusal := memIncForm 2 aluSub .y s.b s

/-- `SUB [%X],imm4` (R144). -/
def execSubMemXImm4 (i : Nibble) (s : State) : Host.Outcome State Fault Refusal := memForm 2 aluSub .x i s

/-- `SUB [%Y],imm4` (R144). -/
def execSubMemYImm4 (i : Nibble) (s : State) : Host.Outcome State Fault Refusal := memForm 2 aluSub .y i s

/-- `SUB [%X]+,imm4` (R145). -/
def execSubMemXIncImm4 (i : Nibble) (s : State) : Host.Outcome State Fault Refusal := memIncForm 2 aluSub .x i s

/-- `SUB [%Y]+,imm4` (R145). -/
def execSubMemYIncImm4 (i : Nibble) (s : State) : Host.Outcome State Fault Refusal := memIncForm 2 aluSub .y i s

/-- `SBC %A,%A` (R146). -/
def execSbcAA (s : State) : Host.Outcome State Fault Refusal := regForm 1 aluSbc .a s.a s

/-- `SBC %A,%B` (R146). -/
def execSbcAB (s : State) : Host.Outcome State Fault Refusal := regForm 1 aluSbc .a s.b s

/-- `SBC %B,%A` (R146). -/
def execSbcBA (s : State) : Host.Outcome State Fault Refusal := regForm 1 aluSbc .b s.a s

/-- `SBC %B,%B` (R146). -/
def execSbcBB (s : State) : Host.Outcome State Fault Refusal := regForm 1 aluSbc .b s.b s

/-- `SBC %A,imm4` (R147). -/
def execSbcAImm4 (i : Nibble) (s : State) : Host.Outcome State Fault Refusal := regForm 1 aluSbc .a i s

/-- `SBC %B,imm4` (R147). -/
def execSbcBImm4 (i : Nibble) (s : State) : Host.Outcome State Fault Refusal := regForm 1 aluSbc .b i s

/-- `SBC %A,[%X]` (R148). -/
def execSbcAMemX (s : State) : Host.Outcome State Fault Refusal := regMemForm 1 aluSbc .a .x s

/-- `SBC %A,[%Y]` (R148). -/
def execSbcAMemY (s : State) : Host.Outcome State Fault Refusal := regMemForm 1 aluSbc .a .y s

/-- `SBC %B,[%X]` (R148). -/
def execSbcBMemX (s : State) : Host.Outcome State Fault Refusal := regMemForm 1 aluSbc .b .x s

/-- `SBC %B,[%Y]` (R148). -/
def execSbcBMemY (s : State) : Host.Outcome State Fault Refusal := regMemForm 1 aluSbc .b .y s

/-- `SBC %A,[%X]+` (R149). -/
def execSbcAMemXInc (s : State) : Host.Outcome State Fault Refusal := regMemIncForm 1 aluSbc .a .x s

/-- `SBC %A,[%Y]+` (R149). -/
def execSbcAMemYInc (s : State) : Host.Outcome State Fault Refusal := regMemIncForm 1 aluSbc .a .y s

/-- `SBC %B,[%X]+` (R149). -/
def execSbcBMemXInc (s : State) : Host.Outcome State Fault Refusal := regMemIncForm 1 aluSbc .b .x s

/-- `SBC %B,[%Y]+` (R149). -/
def execSbcBMemYInc (s : State) : Host.Outcome State Fault Refusal := regMemIncForm 1 aluSbc .b .y s

/-- `SBC [%X],%A` (R150). -/
def execSbcMemXA (s : State) : Host.Outcome State Fault Refusal := memForm 2 aluSbc .x s.a s

/-- `SBC [%X],%B` (R150). -/
def execSbcMemXB (s : State) : Host.Outcome State Fault Refusal := memForm 2 aluSbc .x s.b s

/-- `SBC [%Y],%A` (R150). -/
def execSbcMemYA (s : State) : Host.Outcome State Fault Refusal := memForm 2 aluSbc .y s.a s

/-- `SBC [%Y],%B` (R150). -/
def execSbcMemYB (s : State) : Host.Outcome State Fault Refusal := memForm 2 aluSbc .y s.b s

/-- `SBC [%X]+,%A` (R151). -/
def execSbcMemXIncA (s : State) : Host.Outcome State Fault Refusal := memIncForm 2 aluSbc .x s.a s

/-- `SBC [%X]+,%B` (R151). -/
def execSbcMemXIncB (s : State) : Host.Outcome State Fault Refusal := memIncForm 2 aluSbc .x s.b s

/-- `SBC [%Y]+,%A` (R151). -/
def execSbcMemYIncA (s : State) : Host.Outcome State Fault Refusal := memIncForm 2 aluSbc .y s.a s

/-- `SBC [%Y]+,%B` (R151). -/
def execSbcMemYIncB (s : State) : Host.Outcome State Fault Refusal := memIncForm 2 aluSbc .y s.b s

/-- `SBC [%X],imm4` (R152). -/
def execSbcMemXImm4 (i : Nibble) (s : State) : Host.Outcome State Fault Refusal := memForm 2 aluSbc .x i s

/-- `SBC [%Y],imm4` (R152). -/
def execSbcMemYImm4 (i : Nibble) (s : State) : Host.Outcome State Fault Refusal := memForm 2 aluSbc .y i s

/-- `SBC [%X]+,imm4` (R153). -/
def execSbcMemXIncImm4 (i : Nibble) (s : State) : Host.Outcome State Fault Refusal := memIncForm 2 aluSbc .x i s

/-- `SBC [%Y]+,imm4` (R153). -/
def execSbcMemYIncImm4 (i : Nibble) (s : State) : Host.Outcome State Fault Refusal := memIncForm 2 aluSbc .y i s

/-- `CMP %A,%A` (R154). -/
def execCmpAA (s : State) : Host.Outcome State Fault Refusal := regTest aluSub .a s.a s

/-- `CMP %A,%B` (R154). -/
def execCmpAB (s : State) : Host.Outcome State Fault Refusal := regTest aluSub .a s.b s

/-- `CMP %B,%A` (R154). -/
def execCmpBA (s : State) : Host.Outcome State Fault Refusal := regTest aluSub .b s.a s

/-- `CMP %B,%B` (R154). -/
def execCmpBB (s : State) : Host.Outcome State Fault Refusal := regTest aluSub .b s.b s

/-- `CMP %A,imm4` (R155). -/
def execCmpAImm4 (i : Nibble) (s : State) : Host.Outcome State Fault Refusal := regTest aluSub .a i s

/-- `CMP %B,imm4` (R155). -/
def execCmpBImm4 (i : Nibble) (s : State) : Host.Outcome State Fault Refusal := regTest aluSub .b i s

/-- `CMP %A,[%X]` (R156). -/
def execCmpAMemX (s : State) : Host.Outcome State Fault Refusal := regMemTest aluSub .a .x s

/-- `CMP %A,[%Y]` (R156). -/
def execCmpAMemY (s : State) : Host.Outcome State Fault Refusal := regMemTest aluSub .a .y s

/-- `CMP %B,[%X]` (R156). -/
def execCmpBMemX (s : State) : Host.Outcome State Fault Refusal := regMemTest aluSub .b .x s

/-- `CMP %B,[%Y]` (R156). -/
def execCmpBMemY (s : State) : Host.Outcome State Fault Refusal := regMemTest aluSub .b .y s

/-- `CMP %A,[%X]+` (R157). -/
def execCmpAMemXInc (s : State) : Host.Outcome State Fault Refusal := regMemIncTest aluSub .a .x s

/-- `CMP %A,[%Y]+` (R157). -/
def execCmpAMemYInc (s : State) : Host.Outcome State Fault Refusal := regMemIncTest aluSub .a .y s

/-- `CMP %B,[%X]+` (R157). -/
def execCmpBMemXInc (s : State) : Host.Outcome State Fault Refusal := regMemIncTest aluSub .b .x s

/-- `CMP %B,[%Y]+` (R157). -/
def execCmpBMemYInc (s : State) : Host.Outcome State Fault Refusal := regMemIncTest aluSub .b .y s

/-- `CMP [%X],%A` (R158). -/
def execCmpMemXA (s : State) : Host.Outcome State Fault Refusal := memTest aluSub .x s.a s

/-- `CMP [%X],%B` (R158). -/
def execCmpMemXB (s : State) : Host.Outcome State Fault Refusal := memTest aluSub .x s.b s

/-- `CMP [%Y],%A` (R158). -/
def execCmpMemYA (s : State) : Host.Outcome State Fault Refusal := memTest aluSub .y s.a s

/-- `CMP [%Y],%B` (R158). -/
def execCmpMemYB (s : State) : Host.Outcome State Fault Refusal := memTest aluSub .y s.b s

/-- `CMP [%X]+,%A` (R159). -/
def execCmpMemXIncA (s : State) : Host.Outcome State Fault Refusal := memIncTest aluSub .x s.a s

/-- `CMP [%X]+,%B` (R159). -/
def execCmpMemXIncB (s : State) : Host.Outcome State Fault Refusal := memIncTest aluSub .x s.b s

/-- `CMP [%Y]+,%A` (R159). -/
def execCmpMemYIncA (s : State) : Host.Outcome State Fault Refusal := memIncTest aluSub .y s.a s

/-- `CMP [%Y]+,%B` (R159). -/
def execCmpMemYIncB (s : State) : Host.Outcome State Fault Refusal := memIncTest aluSub .y s.b s

/-- `CMP [%X],imm4` (R160). -/
def execCmpMemXImm4 (i : Nibble) (s : State) : Host.Outcome State Fault Refusal := memTest aluSub .x i s

/-- `CMP [%Y],imm4` (R160). -/
def execCmpMemYImm4 (i : Nibble) (s : State) : Host.Outcome State Fault Refusal := memTest aluSub .y i s

/-- `CMP [%X]+,imm4` (R161). -/
def execCmpMemXIncImm4 (i : Nibble) (s : State) : Host.Outcome State Fault Refusal := memIncTest aluSub .x i s

/-- `CMP [%Y]+,imm4` (R161). -/
def execCmpMemYIncImm4 (i : Nibble) (s : State) : Host.Outcome State Fault Refusal := memIncTest aluSub .y i s

/-- `INC [addr6]` (R162). -/
def execIncMemAddr6 (a : BitVec 6) (s : State) : Host.Outcome State Fault Refusal := absForm aluAdd (ea00 a) 1#4 s

/-- `DEC [addr6]` (R163). -/
def execDecMemAddr6 (a : BitVec 6) (s : State) : Host.Outcome State Fault Refusal := absForm aluSub (ea00 a) 1#4 s

end Sys2Proof.Machine
end

