-- ==== Sys2Proof/Machine/Branch.lean ====
section
/-! DEFINITION. The meanings of jumps, calls, returns and INT (spec/47_branch.md R380 to R399). -/

namespace Sys2Proof.Machine

/-- `JR sign8` (R382). -/
def execJrSign8 (d : Byte) (s : State) : Host.Outcome State Fault Refusal := jumpIf true d s

/-- `JR %A` (R383). -/
def execJrA (s : State) : Host.Outcome State Fault Refusal := jumpTo (branchTarget s (s.a.setWidth 16)) s

/-- `JR %BA` (R384). -/
def execJrBA (s : State) : Host.Outcome State Fault Refusal := jumpTo (branchTarget s (s.ba.setWidth 16)) s

/-- `JR [addr6]` (R385). -/
def execJrMemAddr6 (a : BitVec 6) (s : State) : Host.Outcome State Fault Refusal :=
  extInvalid s do
    let (v, s1) ← readWord s (ea00 a)
    .ok (s1.retireTo 2 (branchTarget s (v.setWidth 16)))

/-- `JRC sign8` (R386). -/
def execJrcSign8 (d : Byte) (s : State) : Host.Outcome State Fault Refusal := jumpIf (flagC s.f) d s

/-- `JRNC sign8` (R387). -/
def execJrncSign8 (d : Byte) (s : State) : Host.Outcome State Fault Refusal := jumpIf (!flagC s.f) d s

/-- `JRZ sign8` (R388). -/
def execJrzSign8 (d : Byte) (s : State) : Host.Outcome State Fault Refusal := jumpIf (flagZ s.f) d s

/-- `JRNZ sign8` (R389). -/
def execJrnzSign8 (d : Byte) (s : State) : Host.Outcome State Fault Refusal := jumpIf (!flagZ s.f) d s

/-- `JP %Y` (R390). -/
def execJpY (s : State) : Host.Outcome State Fault Refusal := jumpTo s.y s

/-- `CALZ imm8` (R391). -/
def execCalzImm8 (i : Byte) (s : State) : Host.Outcome State Fault Refusal :=
  extInvalid s do
    let s1 ← push16 (s.pc + 1#16) s
    .ok (s1.retireTo 1 (i.setWidth 16))

/-- `CALR sign8` (R392). -/
def execCalrSign8 (d : Byte) (s : State) : Host.Outcome State Fault Refusal :=
  finish do
    let s1 ← push16 (s.pc + 1#16) s
    .ok (s1.retireTo 1 (branchTarget s (signOperand s d)))

/-- `CALR [addr6]` (R393). -/
def execCalrMemAddr6 (a : BitVec 6) (s : State) : Host.Outcome State Fault Refusal :=
  extInvalid s do
    let s1 ← push16 (s.pc + 1#16) s
    let (v, s2) ← readWord s1 (ea00 a)
    .ok (s2.retireTo 2 (branchTarget s (v.setWidth 16)))

/-- `RET` (R394). -/
def execRet (s : State) : Host.Outcome State Fault Refusal :=
  extInvalid s do
    let (ret, s1) ← pop16 s
    .ok (s1.retireTo 1 ret)

/-- `RETS` (R395). -/
def execRets (s : State) : Host.Outcome State Fault Refusal :=
  extInvalid s do
    let (ret, s1) ← pop16 s
    .ok (s1.retireTo 2 (ret + 1#16))

/-- `RETD imm8` (R396). -/
def execRetdImm8 (i : Byte) (s : State) : Host.Outcome State Fault Refusal :=
  extInvalid s do
    let (ret, s1) ← pop16 s
    let s2 ← write2 s1.x i s1
    .ok ((s2.bump .x 2#16).retireTo 3 ret)

/-- `RETI` (R397). -/
def execReti (s : State) : Host.Outcome State Fault Refusal := extInvalid s (returnFromInterrupt s)

/-- `INT imm6` (R398). -/
def execIntImm6 (v : BitVec 6) (s : State) : Host.Outcome State Fault Refusal :=
  extInvalid s do
    let s1 ← saveContext (s.pc + 1#16) s
    .ok (s1.retireTo 3 (0x0100#16 + v.setWidth 16))

end Sys2Proof.Machine
end

