-- ==== Sys2Proof/Machine/Logic.lean ====
section
/-! DEFINITION. The meanings of logic and bit operations: AND, OR, XOR, BIT, CLR, SET, TST (spec/43_logic.md R210 to R249). -/

namespace Sys2Proof.Machine

/-- `AND %A,%A` (R212). -/
def execAndAA (s : State) : Host.Outcome State Fault Refusal := regForm 1 aluAnd .a s.a s

/-- `AND %A,%B` (R212). -/
def execAndAB (s : State) : Host.Outcome State Fault Refusal := regForm 1 aluAnd .a s.b s

/-- `AND %B,%A` (R212). -/
def execAndBA (s : State) : Host.Outcome State Fault Refusal := regForm 1 aluAnd .b s.a s

/-- `AND %B,%B` (R212). -/
def execAndBB (s : State) : Host.Outcome State Fault Refusal := regForm 1 aluAnd .b s.b s

/-- `AND %A,imm4` (R213). -/
def execAndAImm4 (i : Nibble) (s : State) : Host.Outcome State Fault Refusal := regForm 1 aluAnd .a i s

/-- `AND %B,imm4` (R213). -/
def execAndBImm4 (i : Nibble) (s : State) : Host.Outcome State Fault Refusal := regForm 1 aluAnd .b i s

/-- `AND %A,[%X]` (R214). -/
def execAndAMemX (s : State) : Host.Outcome State Fault Refusal := regMemForm 1 aluAnd .a .x s

/-- `AND %A,[%Y]` (R214). -/
def execAndAMemY (s : State) : Host.Outcome State Fault Refusal := regMemForm 1 aluAnd .a .y s

/-- `AND %B,[%X]` (R214). -/
def execAndBMemX (s : State) : Host.Outcome State Fault Refusal := regMemForm 1 aluAnd .b .x s

/-- `AND %B,[%Y]` (R214). -/
def execAndBMemY (s : State) : Host.Outcome State Fault Refusal := regMemForm 1 aluAnd .b .y s

/-- `AND %A,[%X]+` (R215). -/
def execAndAMemXInc (s : State) : Host.Outcome State Fault Refusal := regMemIncForm 1 aluAnd .a .x s

/-- `AND %A,[%Y]+` (R215). -/
def execAndAMemYInc (s : State) : Host.Outcome State Fault Refusal := regMemIncForm 1 aluAnd .a .y s

/-- `AND %B,[%X]+` (R215). -/
def execAndBMemXInc (s : State) : Host.Outcome State Fault Refusal := regMemIncForm 1 aluAnd .b .x s

/-- `AND %B,[%Y]+` (R215). -/
def execAndBMemYInc (s : State) : Host.Outcome State Fault Refusal := regMemIncForm 1 aluAnd .b .y s

/-- `AND [%X],%A` (R216). -/
def execAndMemXA (s : State) : Host.Outcome State Fault Refusal := memForm 2 aluAnd .x s.a s

/-- `AND [%X],%B` (R216). -/
def execAndMemXB (s : State) : Host.Outcome State Fault Refusal := memForm 2 aluAnd .x s.b s

/-- `AND [%Y],%A` (R216). -/
def execAndMemYA (s : State) : Host.Outcome State Fault Refusal := memForm 2 aluAnd .y s.a s

/-- `AND [%Y],%B` (R216). -/
def execAndMemYB (s : State) : Host.Outcome State Fault Refusal := memForm 2 aluAnd .y s.b s

/-- `AND [%X]+,%A` (R217). -/
def execAndMemXIncA (s : State) : Host.Outcome State Fault Refusal := memIncForm 2 aluAnd .x s.a s

/-- `AND [%X]+,%B` (R217). -/
def execAndMemXIncB (s : State) : Host.Outcome State Fault Refusal := memIncForm 2 aluAnd .x s.b s

/-- `AND [%Y]+,%A` (R217). -/
def execAndMemYIncA (s : State) : Host.Outcome State Fault Refusal := memIncForm 2 aluAnd .y s.a s

/-- `AND [%Y]+,%B` (R217). -/
def execAndMemYIncB (s : State) : Host.Outcome State Fault Refusal := memIncForm 2 aluAnd .y s.b s

/-- `AND [%X],imm4` (R218). -/
def execAndMemXImm4 (i : Nibble) (s : State) : Host.Outcome State Fault Refusal := memForm 2 aluAnd .x i s

/-- `AND [%Y],imm4` (R218). -/
def execAndMemYImm4 (i : Nibble) (s : State) : Host.Outcome State Fault Refusal := memForm 2 aluAnd .y i s

/-- `AND [%X]+,imm4` (R219). -/
def execAndMemXIncImm4 (i : Nibble) (s : State) : Host.Outcome State Fault Refusal := memIncForm 2 aluAnd .x i s

/-- `AND [%Y]+,imm4` (R219). -/
def execAndMemYIncImm4 (i : Nibble) (s : State) : Host.Outcome State Fault Refusal := memIncForm 2 aluAnd .y i s

/-- `AND %F,imm4` (R220). -/
def execAndFImm4 (i : Nibble) (s : State) : Host.Outcome State Fault Refusal := putF (s.f &&& i) s

/-- `OR %A,%A` (R221). -/
def execOrAA (s : State) : Host.Outcome State Fault Refusal := regForm 1 aluOr .a s.a s

/-- `OR %A,%B` (R221). -/
def execOrAB (s : State) : Host.Outcome State Fault Refusal := regForm 1 aluOr .a s.b s

/-- `OR %B,%A` (R221). -/
def execOrBA (s : State) : Host.Outcome State Fault Refusal := regForm 1 aluOr .b s.a s

/-- `OR %B,%B` (R221). -/
def execOrBB (s : State) : Host.Outcome State Fault Refusal := regForm 1 aluOr .b s.b s

/-- `OR %A,imm4` (R222). -/
def execOrAImm4 (i : Nibble) (s : State) : Host.Outcome State Fault Refusal := regForm 1 aluOr .a i s

/-- `OR %B,imm4` (R222). -/
def execOrBImm4 (i : Nibble) (s : State) : Host.Outcome State Fault Refusal := regForm 1 aluOr .b i s

/-- `OR %A,[%X]` (R223). -/
def execOrAMemX (s : State) : Host.Outcome State Fault Refusal := regMemForm 1 aluOr .a .x s

/-- `OR %A,[%Y]` (R223). -/
def execOrAMemY (s : State) : Host.Outcome State Fault Refusal := regMemForm 1 aluOr .a .y s

/-- `OR %B,[%X]` (R223). -/
def execOrBMemX (s : State) : Host.Outcome State Fault Refusal := regMemForm 1 aluOr .b .x s

/-- `OR %B,[%Y]` (R223). -/
def execOrBMemY (s : State) : Host.Outcome State Fault Refusal := regMemForm 1 aluOr .b .y s

/-- `OR %A,[%X]+` (R224). -/
def execOrAMemXInc (s : State) : Host.Outcome State Fault Refusal := regMemIncForm 1 aluOr .a .x s

/-- `OR %A,[%Y]+` (R224). -/
def execOrAMemYInc (s : State) : Host.Outcome State Fault Refusal := regMemIncForm 1 aluOr .a .y s

/-- `OR %B,[%X]+` (R224). -/
def execOrBMemXInc (s : State) : Host.Outcome State Fault Refusal := regMemIncForm 1 aluOr .b .x s

/-- `OR %B,[%Y]+` (R224). -/
def execOrBMemYInc (s : State) : Host.Outcome State Fault Refusal := regMemIncForm 1 aluOr .b .y s

/-- `OR [%X],%A` (R225). -/
def execOrMemXA (s : State) : Host.Outcome State Fault Refusal := memForm 2 aluOr .x s.a s

/-- `OR [%X],%B` (R225). -/
def execOrMemXB (s : State) : Host.Outcome State Fault Refusal := memForm 2 aluOr .x s.b s

/-- `OR [%Y],%A` (R225). -/
def execOrMemYA (s : State) : Host.Outcome State Fault Refusal := memForm 2 aluOr .y s.a s

/-- `OR [%Y],%B` (R225). -/
def execOrMemYB (s : State) : Host.Outcome State Fault Refusal := memForm 2 aluOr .y s.b s

/-- `OR [%X]+,%A` (R226). -/
def execOrMemXIncA (s : State) : Host.Outcome State Fault Refusal := memIncForm 2 aluOr .x s.a s

/-- `OR [%X]+,%B` (R226). -/
def execOrMemXIncB (s : State) : Host.Outcome State Fault Refusal := memIncForm 2 aluOr .x s.b s

/-- `OR [%Y]+,%A` (R226). -/
def execOrMemYIncA (s : State) : Host.Outcome State Fault Refusal := memIncForm 2 aluOr .y s.a s

/-- `OR [%Y]+,%B` (R226). -/
def execOrMemYIncB (s : State) : Host.Outcome State Fault Refusal := memIncForm 2 aluOr .y s.b s

/-- `OR [%X],imm4` (R227). -/
def execOrMemXImm4 (i : Nibble) (s : State) : Host.Outcome State Fault Refusal := memForm 2 aluOr .x i s

/-- `OR [%Y],imm4` (R227). -/
def execOrMemYImm4 (i : Nibble) (s : State) : Host.Outcome State Fault Refusal := memForm 2 aluOr .y i s

/-- `OR [%X]+,imm4` (R228). -/
def execOrMemXIncImm4 (i : Nibble) (s : State) : Host.Outcome State Fault Refusal := memIncForm 2 aluOr .x i s

/-- `OR [%Y]+,imm4` (R228). -/
def execOrMemYIncImm4 (i : Nibble) (s : State) : Host.Outcome State Fault Refusal := memIncForm 2 aluOr .y i s

/-- `OR %F,imm4` (R229). -/
def execOrFImm4 (i : Nibble) (s : State) : Host.Outcome State Fault Refusal := putF (s.f ||| i) s

/-- `XOR %A,%A` (R230). -/
def execXorAA (s : State) : Host.Outcome State Fault Refusal := regForm 1 aluXor .a s.a s

/-- `XOR %A,%B` (R230). -/
def execXorAB (s : State) : Host.Outcome State Fault Refusal := regForm 1 aluXor .a s.b s

/-- `XOR %B,%A` (R230). -/
def execXorBA (s : State) : Host.Outcome State Fault Refusal := regForm 1 aluXor .b s.a s

/-- `XOR %B,%B` (R230). -/
def execXorBB (s : State) : Host.Outcome State Fault Refusal := regForm 1 aluXor .b s.b s

/-- `XOR %A,imm4` (R231). -/
def execXorAImm4 (i : Nibble) (s : State) : Host.Outcome State Fault Refusal := regForm 1 aluXor .a i s

/-- `XOR %B,imm4` (R231). -/
def execXorBImm4 (i : Nibble) (s : State) : Host.Outcome State Fault Refusal := regForm 1 aluXor .b i s

/-- `XOR %A,[%X]` (R232). -/
def execXorAMemX (s : State) : Host.Outcome State Fault Refusal := regMemForm 1 aluXor .a .x s

/-- `XOR %A,[%Y]` (R232). -/
def execXorAMemY (s : State) : Host.Outcome State Fault Refusal := regMemForm 1 aluXor .a .y s

/-- `XOR %B,[%X]` (R232). -/
def execXorBMemX (s : State) : Host.Outcome State Fault Refusal := regMemForm 1 aluXor .b .x s

/-- `XOR %B,[%Y]` (R232). -/
def execXorBMemY (s : State) : Host.Outcome State Fault Refusal := regMemForm 1 aluXor .b .y s

/-- `XOR %A,[%X]+` (R233). -/
def execXorAMemXInc (s : State) : Host.Outcome State Fault Refusal := regMemIncForm 1 aluXor .a .x s

/-- `XOR %A,[%Y]+` (R233). -/
def execXorAMemYInc (s : State) : Host.Outcome State Fault Refusal := regMemIncForm 1 aluXor .a .y s

/-- `XOR %B,[%X]+` (R233). -/
def execXorBMemXInc (s : State) : Host.Outcome State Fault Refusal := regMemIncForm 1 aluXor .b .x s

/-- `XOR %B,[%Y]+` (R233). -/
def execXorBMemYInc (s : State) : Host.Outcome State Fault Refusal := regMemIncForm 1 aluXor .b .y s

/-- `XOR [%X],%A` (R234). -/
def execXorMemXA (s : State) : Host.Outcome State Fault Refusal := memForm 2 aluXor .x s.a s

/-- `XOR [%X],%B` (R234). -/
def execXorMemXB (s : State) : Host.Outcome State Fault Refusal := memForm 2 aluXor .x s.b s

/-- `XOR [%Y],%A` (R234). -/
def execXorMemYA (s : State) : Host.Outcome State Fault Refusal := memForm 2 aluXor .y s.a s

/-- `XOR [%Y],%B` (R234). -/
def execXorMemYB (s : State) : Host.Outcome State Fault Refusal := memForm 2 aluXor .y s.b s

/-- `XOR [%X]+,%A` (R235). -/
def execXorMemXIncA (s : State) : Host.Outcome State Fault Refusal := memIncForm 2 aluXor .x s.a s

/-- `XOR [%X]+,%B` (R235). -/
def execXorMemXIncB (s : State) : Host.Outcome State Fault Refusal := memIncForm 2 aluXor .x s.b s

/-- `XOR [%Y]+,%A` (R235). -/
def execXorMemYIncA (s : State) : Host.Outcome State Fault Refusal := memIncForm 2 aluXor .y s.a s

/-- `XOR [%Y]+,%B` (R235). -/
def execXorMemYIncB (s : State) : Host.Outcome State Fault Refusal := memIncForm 2 aluXor .y s.b s

/-- `XOR [%X],imm4` (R236). -/
def execXorMemXImm4 (i : Nibble) (s : State) : Host.Outcome State Fault Refusal := memForm 2 aluXor .x i s

/-- `XOR [%Y],imm4` (R236). -/
def execXorMemYImm4 (i : Nibble) (s : State) : Host.Outcome State Fault Refusal := memForm 2 aluXor .y i s

/-- `XOR [%X]+,imm4` (R237). -/
def execXorMemXIncImm4 (i : Nibble) (s : State) : Host.Outcome State Fault Refusal := memIncForm 2 aluXor .x i s

/-- `XOR [%Y]+,imm4` (R237). -/
def execXorMemYIncImm4 (i : Nibble) (s : State) : Host.Outcome State Fault Refusal := memIncForm 2 aluXor .y i s

/-- `XOR %F,imm4` (R238). -/
def execXorFImm4 (i : Nibble) (s : State) : Host.Outcome State Fault Refusal := putF (s.f ^^^ i) s

/-- `BIT %A,%A` (R239). -/
def execBitAA (s : State) : Host.Outcome State Fault Refusal := regTest aluAnd .a s.a s

/-- `BIT %A,%B` (R239). -/
def execBitAB (s : State) : Host.Outcome State Fault Refusal := regTest aluAnd .a s.b s

/-- `BIT %B,%A` (R239). -/
def execBitBA (s : State) : Host.Outcome State Fault Refusal := regTest aluAnd .b s.a s

/-- `BIT %B,%B` (R239). -/
def execBitBB (s : State) : Host.Outcome State Fault Refusal := regTest aluAnd .b s.b s

/-- `BIT %A,imm4` (R240). -/
def execBitAImm4 (i : Nibble) (s : State) : Host.Outcome State Fault Refusal := regTest aluAnd .a i s

/-- `BIT %B,imm4` (R240). -/
def execBitBImm4 (i : Nibble) (s : State) : Host.Outcome State Fault Refusal := regTest aluAnd .b i s

/-- `BIT %A,[%X]` (R241). -/
def execBitAMemX (s : State) : Host.Outcome State Fault Refusal := regMemTest aluAnd .a .x s

/-- `BIT %A,[%Y]` (R241). -/
def execBitAMemY (s : State) : Host.Outcome State Fault Refusal := regMemTest aluAnd .a .y s

/-- `BIT %B,[%X]` (R241). -/
def execBitBMemX (s : State) : Host.Outcome State Fault Refusal := regMemTest aluAnd .b .x s

/-- `BIT %B,[%Y]` (R241). -/
def execBitBMemY (s : State) : Host.Outcome State Fault Refusal := regMemTest aluAnd .b .y s

/-- `BIT %A,[%X]+` (R242). -/
def execBitAMemXInc (s : State) : Host.Outcome State Fault Refusal := regMemIncTest aluAnd .a .x s

/-- `BIT %A,[%Y]+` (R242). -/
def execBitAMemYInc (s : State) : Host.Outcome State Fault Refusal := regMemIncTest aluAnd .a .y s

/-- `BIT %B,[%X]+` (R242). -/
def execBitBMemXInc (s : State) : Host.Outcome State Fault Refusal := regMemIncTest aluAnd .b .x s

/-- `BIT %B,[%Y]+` (R242). -/
def execBitBMemYInc (s : State) : Host.Outcome State Fault Refusal := regMemIncTest aluAnd .b .y s

/-- `BIT [%X],%A` (R243). -/
def execBitMemXA (s : State) : Host.Outcome State Fault Refusal := memTest aluAnd .x s.a s

/-- `BIT [%X],%B` (R243). -/
def execBitMemXB (s : State) : Host.Outcome State Fault Refusal := memTest aluAnd .x s.b s

/-- `BIT [%Y],%A` (R243). -/
def execBitMemYA (s : State) : Host.Outcome State Fault Refusal := memTest aluAnd .y s.a s

/-- `BIT [%Y],%B` (R243). -/
def execBitMemYB (s : State) : Host.Outcome State Fault Refusal := memTest aluAnd .y s.b s

/-- `BIT [%X]+,%A` (R244). -/
def execBitMemXIncA (s : State) : Host.Outcome State Fault Refusal := memIncTest aluAnd .x s.a s

/-- `BIT [%X]+,%B` (R244). -/
def execBitMemXIncB (s : State) : Host.Outcome State Fault Refusal := memIncTest aluAnd .x s.b s

/-- `BIT [%Y]+,%A` (R244). -/
def execBitMemYIncA (s : State) : Host.Outcome State Fault Refusal := memIncTest aluAnd .y s.a s

/-- `BIT [%Y]+,%B` (R244). -/
def execBitMemYIncB (s : State) : Host.Outcome State Fault Refusal := memIncTest aluAnd .y s.b s

/-- `BIT [%X],imm4` (R245). -/
def execBitMemXImm4 (i : Nibble) (s : State) : Host.Outcome State Fault Refusal := memTest aluAnd .x i s

/-- `BIT [%Y],imm4` (R245). -/
def execBitMemYImm4 (i : Nibble) (s : State) : Host.Outcome State Fault Refusal := memTest aluAnd .y i s

/-- `BIT [%X]+,imm4` (R246). -/
def execBitMemXIncImm4 (i : Nibble) (s : State) : Host.Outcome State Fault Refusal := memIncTest aluAnd .x i s

/-- `BIT [%Y]+,imm4` (R246). -/
def execBitMemYIncImm4 (i : Nibble) (s : State) : Host.Outcome State Fault Refusal := memIncTest aluAnd .y i s

/-- `CLR [00addr6],imm2` (R247). -/
def execClrMem00Addr6Imm2 (a : BitVec 6) (b : BitVec 2) (s : State) : Host.Outcome State Fault Refusal :=
  absForm aluAnd (ea00 a) (~~~bitMask b) s

/-- `CLR [FFaddr6],imm2` (R247). -/
def execClrMemFFAddr6Imm2 (a : BitVec 6) (b : BitVec 2) (s : State) : Host.Outcome State Fault Refusal :=
  absForm aluAnd (eaFF a) (~~~bitMask b) s

/-- `SET [00addr6],imm2` (R248). -/
def execSetMem00Addr6Imm2 (a : BitVec 6) (b : BitVec 2) (s : State) : Host.Outcome State Fault Refusal :=
  absForm aluOr (ea00 a) (bitMask b) s

/-- `SET [FFaddr6],imm2` (R248). -/
def execSetMemFFAddr6Imm2 (a : BitVec 6) (b : BitVec 2) (s : State) : Host.Outcome State Fault Refusal :=
  absForm aluOr (eaFF a) (bitMask b) s

/-- `TST [00addr6],imm2` (R249). -/
def execTstMem00Addr6Imm2 (a : BitVec 6) (b : BitVec 2) (s : State) : Host.Outcome State Fault Refusal :=
  absTest aluAnd (ea00 a) (bitMask b) s

/-- `TST [FFaddr6],imm2` (R249). -/
def execTstMemFFAddr6Imm2 (a : BitVec 6) (b : BitVec 2) (s : State) : Host.Outcome State Fault Refusal :=
  absTest aluAnd (eaFF a) (bitMask b) s

end Sys2Proof.Machine
end

