-- ==== Sys2Proof/Machine/Radix.lean ====
section
/-! DEFINITION. The meanings of radix arithmetic: ADC, SBC, INC and DEC with n4 (spec/42_radix_arithmetic.md R180 to R203). -/

namespace Sys2Proof.Machine

/-- `ADC %B,%A,n4` (R184). -/
def execAdcBAN4 (n : Nat) (s : State) : Host.Outcome State Fault Refusal := regForm 2 (aluAdcRadix n) .b s.a s

/-- `ADC %B,[%X],n4` (R185). -/
def execAdcBMemXN4 (n : Nat) (s : State) : Host.Outcome State Fault Refusal := regMemForm 2 (aluAdcRadix n) .b .x s

/-- `ADC %B,[%Y],n4` (R185). -/
def execAdcBMemYN4 (n : Nat) (s : State) : Host.Outcome State Fault Refusal := regMemForm 2 (aluAdcRadix n) .b .y s

/-- `ADC %B,[%X]+,n4` (R186). -/
def execAdcBMemXIncN4 (n : Nat) (s : State) : Host.Outcome State Fault Refusal := regMemIncForm 2 (aluAdcRadix n) .b .x s

/-- `ADC %B,[%Y]+,n4` (R186). -/
def execAdcBMemYIncN4 (n : Nat) (s : State) : Host.Outcome State Fault Refusal := regMemIncForm 2 (aluAdcRadix n) .b .y s

/-- `ADC [%X],%B,n4` (R187). -/
def execAdcMemXBN4 (n : Nat) (s : State) : Host.Outcome State Fault Refusal := memForm 2 (aluAdcRadix n) .x s.b s

/-- `ADC [%Y],%B,n4` (R187). -/
def execAdcMemYBN4 (n : Nat) (s : State) : Host.Outcome State Fault Refusal := memForm 2 (aluAdcRadix n) .y s.b s

/-- `ADC [%X]+,%B,n4` (R188). -/
def execAdcMemXIncBN4 (n : Nat) (s : State) : Host.Outcome State Fault Refusal := memIncForm 2 (aluAdcRadix n) .x s.b s

/-- `ADC [%Y]+,%B,n4` (R188). -/
def execAdcMemYIncBN4 (n : Nat) (s : State) : Host.Outcome State Fault Refusal := memIncForm 2 (aluAdcRadix n) .y s.b s

/-- `ADC [%X],0,n4` (R189). -/
def execAdcMemXZeroN4 (n : Nat) (s : State) : Host.Outcome State Fault Refusal := memForm 2 (aluAdcRadix n) .x 0#4 s

/-- `ADC [%Y],0,n4` (R189). -/
def execAdcMemYZeroN4 (n : Nat) (s : State) : Host.Outcome State Fault Refusal := memForm 2 (aluAdcRadix n) .y 0#4 s

/-- `ADC [%X]+,0,n4` (R190). -/
def execAdcMemXIncZeroN4 (n : Nat) (s : State) : Host.Outcome State Fault Refusal := memIncForm 2 (aluAdcRadix n) .x 0#4 s

/-- `ADC [%Y]+,0,n4` (R190). -/
def execAdcMemYIncZeroN4 (n : Nat) (s : State) : Host.Outcome State Fault Refusal := memIncForm 2 (aluAdcRadix n) .y 0#4 s

/-- `SBC %B,%A,n4` (R191). -/
def execSbcBAN4 (n : Nat) (s : State) : Host.Outcome State Fault Refusal := regForm 2 (aluSbcRadix n) .b s.a s

/-- `SBC %B,[%X],n4` (R192). -/
def execSbcBMemXN4 (n : Nat) (s : State) : Host.Outcome State Fault Refusal := regMemForm 2 (aluSbcRadix n) .b .x s

/-- `SBC %B,[%Y],n4` (R192). -/
def execSbcBMemYN4 (n : Nat) (s : State) : Host.Outcome State Fault Refusal := regMemForm 2 (aluSbcRadix n) .b .y s

/-- `SBC %B,[%X]+,n4` (R193). -/
def execSbcBMemXIncN4 (n : Nat) (s : State) : Host.Outcome State Fault Refusal := regMemIncForm 2 (aluSbcRadix n) .b .x s

/-- `SBC %B,[%Y]+,n4` (R193). -/
def execSbcBMemYIncN4 (n : Nat) (s : State) : Host.Outcome State Fault Refusal := regMemIncForm 2 (aluSbcRadix n) .b .y s

/-- `SBC [%X],%B,n4` (R194). -/
def execSbcMemXBN4 (n : Nat) (s : State) : Host.Outcome State Fault Refusal := memForm 2 (aluSbcRadix n) .x s.b s

/-- `SBC [%Y],%B,n4` (R194). -/
def execSbcMemYBN4 (n : Nat) (s : State) : Host.Outcome State Fault Refusal := memForm 2 (aluSbcRadix n) .y s.b s

/-- `SBC [%X]+,%B,n4` (R195). -/
def execSbcMemXIncBN4 (n : Nat) (s : State) : Host.Outcome State Fault Refusal := memIncForm 2 (aluSbcRadix n) .x s.b s

/-- `SBC [%Y]+,%B,n4` (R195). -/
def execSbcMemYIncBN4 (n : Nat) (s : State) : Host.Outcome State Fault Refusal := memIncForm 2 (aluSbcRadix n) .y s.b s

/-- `SBC [%X],0,n4` (R196). -/
def execSbcMemXZeroN4 (n : Nat) (s : State) : Host.Outcome State Fault Refusal := memForm 2 (aluSbcRadix n) .x 0#4 s

/-- `SBC [%Y],0,n4` (R196). -/
def execSbcMemYZeroN4 (n : Nat) (s : State) : Host.Outcome State Fault Refusal := memForm 2 (aluSbcRadix n) .y 0#4 s

/-- `SBC [%X]+,0,n4` (R197). -/
def execSbcMemXIncZeroN4 (n : Nat) (s : State) : Host.Outcome State Fault Refusal := memIncForm 2 (aluSbcRadix n) .x 0#4 s

/-- `SBC [%Y]+,0,n4` (R197). -/
def execSbcMemYIncZeroN4 (n : Nat) (s : State) : Host.Outcome State Fault Refusal := memIncForm 2 (aluSbcRadix n) .y 0#4 s

/-- `INC [%X],n4` (R198). -/
def execIncMemXN4 (n : Nat) (s : State) : Host.Outcome State Fault Refusal := memForm 2 (aluIncRadix n) .x 1#4 s

/-- `INC [%Y],n4` (R198). -/
def execIncMemYN4 (n : Nat) (s : State) : Host.Outcome State Fault Refusal := memForm 2 (aluIncRadix n) .y 1#4 s

/-- `INC [%X]+,n4` (R199). -/
def execIncMemXIncN4 (n : Nat) (s : State) : Host.Outcome State Fault Refusal := memIncForm 2 (aluIncRadix n) .x 1#4 s

/-- `INC [%Y]+,n4` (R199). -/
def execIncMemYIncN4 (n : Nat) (s : State) : Host.Outcome State Fault Refusal := memIncForm 2 (aluIncRadix n) .y 1#4 s

/-- `DEC [%X],n4` (R200). -/
def execDecMemXN4 (n : Nat) (s : State) : Host.Outcome State Fault Refusal := memForm 2 (aluDecRadix n) .x 1#4 s

/-- `DEC [%Y],n4` (R200). -/
def execDecMemYN4 (n : Nat) (s : State) : Host.Outcome State Fault Refusal := memForm 2 (aluDecRadix n) .y 1#4 s

/-- `DEC [%X]+,n4` (R201). -/
def execDecMemXIncN4 (n : Nat) (s : State) : Host.Outcome State Fault Refusal := memIncForm 2 (aluDecRadix n) .x 1#4 s

/-- `DEC [%Y]+,n4` (R201). -/
def execDecMemYIncN4 (n : Nat) (s : State) : Host.Outcome State Fault Refusal := memIncForm 2 (aluDecRadix n) .y 1#4 s

end Sys2Proof.Machine
end

