-- ==== Sys2Proof/Machine/Shift.lean ====
section
/-! DEFINITION. The meanings of shifts and rotates: SLL, SRL, RL, RR (spec/44_shift_rotate.md R250 to R262). -/

namespace Sys2Proof.Machine

/-- `SLL %A` (R251). -/
def execSllA (s : State) : Host.Outcome State Fault Refusal := regForm 1 aluSll .a 0#4 s

/-- `SLL %B` (R251). -/
def execSllB (s : State) : Host.Outcome State Fault Refusal := regForm 1 aluSll .b 0#4 s

/-- `SLL [%X]` (R252). -/
def execSllMemX (s : State) : Host.Outcome State Fault Refusal := memForm 2 aluSll .x 0#4 s

/-- `SLL [%Y]` (R252). -/
def execSllMemY (s : State) : Host.Outcome State Fault Refusal := memForm 2 aluSll .y 0#4 s

/-- `SLL [%X]+` (R253). -/
def execSllMemXInc (s : State) : Host.Outcome State Fault Refusal := memIncForm 2 aluSll .x 0#4 s

/-- `SLL [%Y]+` (R253). -/
def execSllMemYInc (s : State) : Host.Outcome State Fault Refusal := memIncForm 2 aluSll .y 0#4 s

/-- `SRL %A` (R254). -/
def execSrlA (s : State) : Host.Outcome State Fault Refusal := regForm 1 aluSrl .a 0#4 s

/-- `SRL %B` (R254). -/
def execSrlB (s : State) : Host.Outcome State Fault Refusal := regForm 1 aluSrl .b 0#4 s

/-- `SRL [%X]` (R255). -/
def execSrlMemX (s : State) : Host.Outcome State Fault Refusal := memForm 2 aluSrl .x 0#4 s

/-- `SRL [%Y]` (R255). -/
def execSrlMemY (s : State) : Host.Outcome State Fault Refusal := memForm 2 aluSrl .y 0#4 s

/-- `SRL [%X]+` (R256). -/
def execSrlMemXInc (s : State) : Host.Outcome State Fault Refusal := memIncForm 2 aluSrl .x 0#4 s

/-- `SRL [%Y]+` (R256). -/
def execSrlMemYInc (s : State) : Host.Outcome State Fault Refusal := memIncForm 2 aluSrl .y 0#4 s

/-- `RL %A` (R257). -/
def execRlA (s : State) : Host.Outcome State Fault Refusal := regForm 1 aluRl .a 0#4 s

/-- `RL %B` (R257). -/
def execRlB (s : State) : Host.Outcome State Fault Refusal := regForm 1 aluRl .b 0#4 s

/-- `RL [%X]` (R258). -/
def execRlMemX (s : State) : Host.Outcome State Fault Refusal := memForm 2 aluRl .x 0#4 s

/-- `RL [%Y]` (R258). -/
def execRlMemY (s : State) : Host.Outcome State Fault Refusal := memForm 2 aluRl .y 0#4 s

/-- `RL [%X]+` (R259). -/
def execRlMemXInc (s : State) : Host.Outcome State Fault Refusal := memIncForm 2 aluRl .x 0#4 s

/-- `RL [%Y]+` (R259). -/
def execRlMemYInc (s : State) : Host.Outcome State Fault Refusal := memIncForm 2 aluRl .y 0#4 s

/-- `RR %A` (R260). -/
def execRrA (s : State) : Host.Outcome State Fault Refusal := regForm 1 aluRr .a 0#4 s

/-- `RR %B` (R260). -/
def execRrB (s : State) : Host.Outcome State Fault Refusal := regForm 1 aluRr .b 0#4 s

/-- `RR [%X]` (R261). -/
def execRrMemX (s : State) : Host.Outcome State Fault Refusal := memForm 2 aluRr .x 0#4 s

/-- `RR [%Y]` (R261). -/
def execRrMemY (s : State) : Host.Outcome State Fault Refusal := memForm 2 aluRr .y 0#4 s

/-- `RR [%X]+` (R262). -/
def execRrMemXInc (s : State) : Host.Outcome State Fault Refusal := memIncForm 2 aluRr .x 0#4 s

/-- `RR [%Y]+` (R262). -/
def execRrMemYInc (s : State) : Host.Outcome State Fault Refusal := memIncForm 2 aluRr .y 0#4 s

end Sys2Proof.Machine
end

