-- ==== Sys2Proof/Machine/Stack.lean ====
section
/-! DEFINITION. The meanings of PUSH and POP (spec/46_stack.md R290 to R298). -/

namespace Sys2Proof.Machine

/-- `PUSH %A` (R291). -/
def execPushA (s : State) : Host.Outcome State Fault Refusal := pushNibble s.a s

/-- `PUSH %B` (R291). -/
def execPushB (s : State) : Host.Outcome State Fault Refusal := pushNibble s.b s

/-- `PUSH %F` (R291). -/
def execPushF (s : State) : Host.Outcome State Fault Refusal := pushNibble s.f s

/-- `POP %A` (R292). -/
def execPopA (s : State) : Host.Outcome State Fault Refusal := popReg .a s

/-- `POP %B` (R292). -/
def execPopB (s : State) : Host.Outcome State Fault Refusal := popReg .b s

/-- `POP %F` (R293). -/
def execPopF (s : State) : Host.Outcome State Fault Refusal :=
  extInvalid s do
    let (v, s1) ← pop4 s
    .ok (s1.retireF 1 (s1.pc + 1#16) v)

/-- `PUSH %X` (R294). -/
def execPushX (s : State) : Host.Outcome State Fault Refusal := pushIdx .x s

/-- `PUSH %Y` (R294). -/
def execPushY (s : State) : Host.Outcome State Fault Refusal := pushIdx .y s

/-- `POP %X` (R295). -/
def execPopX (s : State) : Host.Outcome State Fault Refusal := popIdx .x s

/-- `POP %Y` (R295). -/
def execPopY (s : State) : Host.Outcome State Fault Refusal := popIdx .y s

end Sys2Proof.Machine
end

