-- ==== Sys2Proof/Machine/System.lean ====
section
/-! DEFINITION. The meanings of NOP, HALT and SLP (spec/48_system.md R400 to R404). -/

namespace Sys2Proof.Machine

/-- `NOP` (R401). -/
def execNop (s : State) : Host.Outcome State Fault Refusal := extInvalid s (.ok (s.retire 1))

/-- `HALT` (R402). -/
def execHalt (s : State) : Host.Outcome State Fault Refusal := extInvalid s (.ok ({ s with run := .halt }.retire 2))

/-- `SLP` (R403). -/
def execSlp (s : State) : Host.Outcome State Fault Refusal :=
  extInvalid s (.ok (({ s with run := .sleep }.emit .uslp).retire 2))

end Sys2Proof.Machine
end

