-- ==== Sys2Proof/Machine/Transfer4.lean ====
section
/-! DEFINITION. The meanings of 4-bit transfer: LD and EX (spec/40_transfer_4bit.md R100 to R116). -/

namespace Sys2Proof.Machine

/-- `LD %A,%A` (R101). -/
def execLdAA (s : State) : Host.Outcome State Fault Refusal := putReg .a s.a s

/-- `LD %A,%B` (R101). -/
def execLdAB (s : State) : Host.Outcome State Fault Refusal := putReg .a s.b s

/-- `LD %A,%F` (R101). -/
def execLdAF (s : State) : Host.Outcome State Fault Refusal := putReg .a s.f s

/-- `LD %B,%A` (R101). -/
def execLdBA (s : State) : Host.Outcome State Fault Refusal := putReg .b s.a s

/-- `LD %B,%B` (R101). -/
def execLdBB (s : State) : Host.Outcome State Fault Refusal := putReg .b s.b s

/-- `LD %F,%A` (R101). -/
def execLdFA (s : State) : Host.Outcome State Fault Refusal := putF s.a s

/-- `LD %A,imm4` (R102). -/
def execLdAImm4 (i : Nibble) (s : State) : Host.Outcome State Fault Refusal := putReg .a i s

/-- `LD %B,imm4` (R102). -/
def execLdBImm4 (i : Nibble) (s : State) : Host.Outcome State Fault Refusal := putReg .b i s

/-- `LD %F,imm4` (R102). -/
def execLdFImm4 (i : Nibble) (s : State) : Host.Outcome State Fault Refusal := putF i s

/-- `LD %A,[%X]` (R103). -/
def execLdAMemX (s : State) : Host.Outcome State Fault Refusal := loadMem .a .x s

/-- `LD %A,[%Y]` (R103). -/
def execLdAMemY (s : State) : Host.Outcome State Fault Refusal := loadMem .a .y s

/-- `LD %B,[%X]` (R103). -/
def execLdBMemX (s : State) : Host.Outcome State Fault Refusal := loadMem .b .x s

/-- `LD %B,[%Y]` (R103). -/
def execLdBMemY (s : State) : Host.Outcome State Fault Refusal := loadMem .b .y s

/-- `LD %A,[%X]+` (R104). -/
def execLdAMemXInc (s : State) : Host.Outcome State Fault Refusal := loadMemInc .a .x s

/-- `LD %A,[%Y]+` (R104). -/
def execLdAMemYInc (s : State) : Host.Outcome State Fault Refusal := loadMemInc .a .y s

/-- `LD %B,[%X]+` (R104). -/
def execLdBMemXInc (s : State) : Host.Outcome State Fault Refusal := loadMemInc .b .x s

/-- `LD %B,[%Y]+` (R104). -/
def execLdBMemYInc (s : State) : Host.Outcome State Fault Refusal := loadMemInc .b .y s

/-- `LD [%X],%A` (R105). -/
def execLdMemXA (s : State) : Host.Outcome State Fault Refusal := storeMem .x s.a s

/-- `LD [%X],%B` (R105). -/
def execLdMemXB (s : State) : Host.Outcome State Fault Refusal := storeMem .x s.b s

/-- `LD [%Y],%A` (R105). -/
def execLdMemYA (s : State) : Host.Outcome State Fault Refusal := storeMem .y s.a s

/-- `LD [%Y],%B` (R105). -/
def execLdMemYB (s : State) : Host.Outcome State Fault Refusal := storeMem .y s.b s

/-- `LD [%X]+,%A` (R106). -/
def execLdMemXIncA (s : State) : Host.Outcome State Fault Refusal := storeMemInc .x s.a s

/-- `LD [%X]+,%B` (R106). -/
def execLdMemXIncB (s : State) : Host.Outcome State Fault Refusal := storeMemInc .x s.b s

/-- `LD [%Y]+,%A` (R106). -/
def execLdMemYIncA (s : State) : Host.Outcome State Fault Refusal := storeMemInc .y s.a s

/-- `LD [%Y]+,%B` (R106). -/
def execLdMemYIncB (s : State) : Host.Outcome State Fault Refusal := storeMemInc .y s.b s

/-- `LD [%X],imm4` (R107). -/
def execLdMemXImm4 (i : Nibble) (s : State) : Host.Outcome State Fault Refusal := storeMem .x i s

/-- `LD [%Y],imm4` (R107). -/
def execLdMemYImm4 (i : Nibble) (s : State) : Host.Outcome State Fault Refusal := storeMem .y i s

/-- `LD [%X]+,imm4` (R108). -/
def execLdMemXIncImm4 (i : Nibble) (s : State) : Host.Outcome State Fault Refusal := storeMemInc .x i s

/-- `LD [%Y]+,imm4` (R108). -/
def execLdMemYIncImm4 (i : Nibble) (s : State) : Host.Outcome State Fault Refusal := storeMemInc .y i s

/-- `EX %A,%B` (R109). -/
def execExAB (s : State) : Host.Outcome State Fault Refusal := extInvalid s (.ok ({ s with a := s.b, b := s.a }.retire 1))

/-- `EX %A,[%X]` (R110). -/
def execExAMemX (s : State) : Host.Outcome State Fault Refusal := exchangeMem .a .x s

/-- `EX %A,[%Y]` (R110). -/
def execExAMemY (s : State) : Host.Outcome State Fault Refusal := exchangeMem .a .y s

/-- `EX %B,[%X]` (R110). -/
def execExBMemX (s : State) : Host.Outcome State Fault Refusal := exchangeMem .b .x s

/-- `EX %B,[%Y]` (R110). -/
def execExBMemY (s : State) : Host.Outcome State Fault Refusal := exchangeMem .b .y s

/-- `EX %A,[%X]+` (R111). -/
def execExAMemXInc (s : State) : Host.Outcome State Fault Refusal := exchangeMemInc .a .x s

/-- `EX %A,[%Y]+` (R111). -/
def execExAMemYInc (s : State) : Host.Outcome State Fault Refusal := exchangeMemInc .a .y s

/-- `EX %B,[%X]+` (R111). -/
def execExBMemXInc (s : State) : Host.Outcome State Fault Refusal := exchangeMemInc .b .x s

/-- `EX %B,[%Y]+` (R111). -/
def execExBMemYInc (s : State) : Host.Outcome State Fault Refusal := exchangeMemInc .b .y s

/-- `LD [%X],[%Y]` (R112). -/
def execLdMemXMemY (s : State) : Host.Outcome State Fault Refusal := copyMem .x 0#16 .y 0#16 s

/-- `LD [%Y],[%X]` (R112). -/
def execLdMemYMemX (s : State) : Host.Outcome State Fault Refusal := copyMem .y 0#16 .x 0#16 s

/-- `LD [%X],[%Y]+` (R113). -/
def execLdMemXMemYInc (s : State) : Host.Outcome State Fault Refusal := copyMem .x 0#16 .y 1#16 s

/-- `LD [%Y],[%X]+` (R113). -/
def execLdMemYMemXInc (s : State) : Host.Outcome State Fault Refusal := copyMem .y 0#16 .x 1#16 s

/-- `LD [%X]+,[%Y]` (R114). -/
def execLdMemXIncMemY (s : State) : Host.Outcome State Fault Refusal := copyMem .x 1#16 .y 0#16 s

/-- `LD [%Y]+,[%X]` (R114). -/
def execLdMemYIncMemX (s : State) : Host.Outcome State Fault Refusal := copyMem .y 1#16 .x 0#16 s

/-- `LD [%X]+,[%Y]+` (R115). -/
def execLdMemXIncMemYInc (s : State) : Host.Outcome State Fault Refusal := copyMem .x 1#16 .y 1#16 s

/-- `LD [%Y]+,[%X]+` (R115). -/
def execLdMemYIncMemXInc (s : State) : Host.Outcome State Fault Refusal := copyMem .y 1#16 .x 1#16 s

end Sys2Proof.Machine
end

