-- ==== Sys2Proof/Machine/Transfer8.lean ====
section
/-! DEFINITION. The meanings of 8-bit and 16-bit transfer and arithmetic (spec/45_transfer_8_16bit.md R270 to R289). -/

namespace Sys2Proof.Machine

/-- `LDB %BA,imm8` (R271). -/
def execLdbBAImm8 (i : Byte) (s : State) : Host.Outcome State Fault Refusal := putBA i s

/-- `LDB %BA,[%X]+` (R272). -/
def execLdbBAMemXInc (s : State) : Host.Outcome State Fault Refusal := loadBA .x s

/-- `LDB %BA,[%Y]+` (R272). -/
def execLdbBAMemYInc (s : State) : Host.Outcome State Fault Refusal := loadBA .y s

/-- `LDB %BA,%EXT` (R273). -/
def execLdbBAEXT (s : State) : Host.Outcome State Fault Refusal := putBA s.ext s

/-- `LDB %BA,%XL` (R274). -/
def execLdbBAXL (s : State) : Host.Outcome State Fault Refusal := putBA (s.x.extractLsb' 0 8) s

/-- `LDB %BA,%XH` (R274). -/
def execLdbBAXH (s : State) : Host.Outcome State Fault Refusal := putBA (s.x.extractLsb' 8 8) s

/-- `LDB %BA,%YL` (R274). -/
def execLdbBAYL (s : State) : Host.Outcome State Fault Refusal := putBA (s.y.extractLsb' 0 8) s

/-- `LDB %BA,%YH` (R274). -/
def execLdbBAYH (s : State) : Host.Outcome State Fault Refusal := putBA (s.y.extractLsb' 8 8) s

/-- `LDB %BA,%SP1` (R275). -/
def execLdbBASP1 (s : State) : Host.Outcome State Fault Refusal := putBA s.sp1 s

/-- `LDB %BA,%SP2` (R275). -/
def execLdbBASP2 (s : State) : Host.Outcome State Fault Refusal := putBA s.sp2 s

/-- `LDB [%X]+,%BA` (R276). -/
def execLdbMemXIncBA (s : State) : Host.Outcome State Fault Refusal := store2 .x s.ba s

/-- `LDB [%Y]+,%BA` (R276). -/
def execLdbMemYIncBA (s : State) : Host.Outcome State Fault Refusal := store2 .y s.ba s

/-- `LDB [%X]+,imm8` (R277). -/
def execLdbMemXIncImm8 (i : Byte) (s : State) : Host.Outcome State Fault Refusal := store2 .x i s

/-- `LDB %EXT,imm8` (R278). -/
def execLdbEXTImm8 (i : Byte) (s : State) : Host.Outcome State Fault Refusal := putExt i s

/-- `LDB %EXT,%BA` (R279). -/
def execLdbEXTBA (s : State) : Host.Outcome State Fault Refusal := putExt s.ba s

/-- `LDB %XL,imm8` (R280). -/
def execLdbXLImm8 (i : Byte) (s : State) : Host.Outcome State Fault Refusal := putLow .x i s

/-- `LDB %YL,imm8` (R280). -/
def execLdbYLImm8 (i : Byte) (s : State) : Host.Outcome State Fault Refusal := putLow .y i s

/-- `LDB %XL,%BA` (R281). -/
def execLdbXLBA (s : State) : Host.Outcome State Fault Refusal := putLowBA .x s

/-- `LDB %XH,%BA` (R281). -/
def execLdbXHBA (s : State) : Host.Outcome State Fault Refusal := putHighBA .x s

/-- `LDB %YL,%BA` (R281). -/
def execLdbYLBA (s : State) : Host.Outcome State Fault Refusal := putLowBA .y s

/-- `LDB %YH,%BA` (R281). -/
def execLdbYHBA (s : State) : Host.Outcome State Fault Refusal := putHighBA .y s

/-- `LDB %SP1,%BA` (R282). -/
def execLdbSP1BA (s : State) : Host.Outcome State Fault Refusal := putSp1BA s

/-- `LDB %SP2,%BA` (R282). -/
def execLdbSP2BA (s : State) : Host.Outcome State Fault Refusal := putSp2BA s

/-- `ADD %X,%BA` (R283). -/
def execAddXBA (s : State) : Host.Outcome State Fault Refusal :=
  extInvalid s (.ok ((addIdx .x (s.ba.setWidth 16) s).retire 1))

/-- `ADD %Y,%BA` (R283). -/
def execAddYBA (s : State) : Host.Outcome State Fault Refusal :=
  extInvalid s (.ok ((addIdx .y (s.ba.setWidth 16) s).retire 1))

/-- `ADD %X,sign8` (R284). -/
def execAddXSign8 (d : Byte) (s : State) : Host.Outcome State Fault Refusal :=
  .next ((addIdx .x (signOperand s d) s).retire 1)

/-- `ADD %Y,sign8` (R284). -/
def execAddYSign8 (d : Byte) (s : State) : Host.Outcome State Fault Refusal :=
  .next ((addIdx .y (signOperand s d) s).retire 1)

/-- `CMP %X,imm8` (R285). -/
def execCmpXImm8 (i : Byte) (s : State) : Host.Outcome State Fault Refusal := cmpIdx .x i s

/-- `CMP %Y,imm8` (R285). -/
def execCmpYImm8 (i : Byte) (s : State) : Host.Outcome State Fault Refusal := cmpIdx .y i s

/-- `INC %SP1` (R286). -/
def execIncSP1 (s : State) : Host.Outcome State Fault Refusal := stepSp1 (s.sp1 + 1#8) s

/-- `INC %SP2` (R286). -/
def execIncSP2 (s : State) : Host.Outcome State Fault Refusal := stepSp2 (s.sp2 + 1#8) s

/-- `DEC %SP1` (R287). -/
def execDecSP1 (s : State) : Host.Outcome State Fault Refusal := stepSp1 (s.sp1 - 1#8) s

/-- `DEC %SP2` (R287). -/
def execDecSP2 (s : State) : Host.Outcome State Fault Refusal := stepSp2 (s.sp2 - 1#8) s

end Sys2Proof.Machine
end

