-- ==== Sys2Proof/Machine/Dispatch.lean ====
section
/-! DEFINITION. One arm per instruction: a direct call of its meaning. -/

namespace Sys2Proof.Machine

def exec (i : Instr) (s : State) : Host.Outcome State Fault Refusal :=
  match i with
  -- 4-bit transfer (spec/40_transfer_4bit.md)
  | .ldAImm4 v => Sys2Proof.Machine.execLdAImm4 v s
  | .ldBImm4 v => Sys2Proof.Machine.execLdBImm4 v s
  | .ldFImm4 v => Sys2Proof.Machine.execLdFImm4 v s
  | .ldMemXImm4 v => Sys2Proof.Machine.execLdMemXImm4 v s
  | .ldMemYImm4 v => Sys2Proof.Machine.execLdMemYImm4 v s
  | .ldMemXIncImm4 v => Sys2Proof.Machine.execLdMemXIncImm4 v s
  | .ldMemYIncImm4 v => Sys2Proof.Machine.execLdMemYIncImm4 v s
  -- 4-bit arithmetic (spec/41_arithmetic.md)
  | .addAImm4 v => Sys2Proof.Machine.execAddAImm4 v s
  | .addBImm4 v => Sys2Proof.Machine.execAddBImm4 v s
  | .addMemXImm4 v => Sys2Proof.Machine.execAddMemXImm4 v s
  | .addMemYImm4 v => Sys2Proof.Machine.execAddMemYImm4 v s
  | .addMemXIncImm4 v => Sys2Proof.Machine.execAddMemXIncImm4 v s
  | .addMemYIncImm4 v => Sys2Proof.Machine.execAddMemYIncImm4 v s
  | .adcAImm4 v => Sys2Proof.Machine.execAdcAImm4 v s
  | .adcBImm4 v => Sys2Proof.Machine.execAdcBImm4 v s
  | .adcMemXImm4 v => Sys2Proof.Machine.execAdcMemXImm4 v s
  | .adcMemYImm4 v => Sys2Proof.Machine.execAdcMemYImm4 v s
  | .adcMemXIncImm4 v => Sys2Proof.Machine.execAdcMemXIncImm4 v s
  | .adcMemYIncImm4 v => Sys2Proof.Machine.execAdcMemYIncImm4 v s
  | .subAImm4 v => Sys2Proof.Machine.execSubAImm4 v s
  | .subBImm4 v => Sys2Proof.Machine.execSubBImm4 v s
  | .subMemXImm4 v => Sys2Proof.Machine.execSubMemXImm4 v s
  | .subMemYImm4 v => Sys2Proof.Machine.execSubMemYImm4 v s
  | .subMemXIncImm4 v => Sys2Proof.Machine.execSubMemXIncImm4 v s
  | .subMemYIncImm4 v => Sys2Proof.Machine.execSubMemYIncImm4 v s
  | .sbcAImm4 v => Sys2Proof.Machine.execSbcAImm4 v s
  | .sbcBImm4 v => Sys2Proof.Machine.execSbcBImm4 v s
  | .sbcMemXImm4 v => Sys2Proof.Machine.execSbcMemXImm4 v s
  | .sbcMemYImm4 v => Sys2Proof.Machine.execSbcMemYImm4 v s
  | .sbcMemXIncImm4 v => Sys2Proof.Machine.execSbcMemXIncImm4 v s
  | .sbcMemYIncImm4 v => Sys2Proof.Machine.execSbcMemYIncImm4 v s
  | .cmpAImm4 v => Sys2Proof.Machine.execCmpAImm4 v s
  | .cmpBImm4 v => Sys2Proof.Machine.execCmpBImm4 v s
  | .cmpMemXImm4 v => Sys2Proof.Machine.execCmpMemXImm4 v s
  | .cmpMemYImm4 v => Sys2Proof.Machine.execCmpMemYImm4 v s
  | .cmpMemXIncImm4 v => Sys2Proof.Machine.execCmpMemXIncImm4 v s
  | .cmpMemYIncImm4 v => Sys2Proof.Machine.execCmpMemYIncImm4 v s
  | .incMemAddr6 a => Sys2Proof.Machine.execIncMemAddr6 a s
  | .decMemAddr6 a => Sys2Proof.Machine.execDecMemAddr6 a s
  -- radix arithmetic (spec/42_radix_arithmetic.md)
  | .adcBAN4 n => Sys2Proof.Machine.execAdcBAN4 n s
  | .adcBMemXN4 n => Sys2Proof.Machine.execAdcBMemXN4 n s
  | .adcBMemYN4 n => Sys2Proof.Machine.execAdcBMemYN4 n s
  | .adcBMemXIncN4 n => Sys2Proof.Machine.execAdcBMemXIncN4 n s
  | .adcBMemYIncN4 n => Sys2Proof.Machine.execAdcBMemYIncN4 n s
  | .adcMemXBN4 n => Sys2Proof.Machine.execAdcMemXBN4 n s
  | .adcMemYBN4 n => Sys2Proof.Machine.execAdcMemYBN4 n s
  | .adcMemXIncBN4 n => Sys2Proof.Machine.execAdcMemXIncBN4 n s
  | .adcMemYIncBN4 n => Sys2Proof.Machine.execAdcMemYIncBN4 n s
  | .adcMemXZeroN4 n => Sys2Proof.Machine.execAdcMemXZeroN4 n s
  | .adcMemYZeroN4 n => Sys2Proof.Machine.execAdcMemYZeroN4 n s
  | .adcMemXIncZeroN4 n => Sys2Proof.Machine.execAdcMemXIncZeroN4 n s
  | .adcMemYIncZeroN4 n => Sys2Proof.Machine.execAdcMemYIncZeroN4 n s
  | .sbcBAN4 n => Sys2Proof.Machine.execSbcBAN4 n s
  | .sbcBMemXN4 n => Sys2Proof.Machine.execSbcBMemXN4 n s
  | .sbcBMemYN4 n => Sys2Proof.Machine.execSbcBMemYN4 n s
  | .sbcBMemXIncN4 n => Sys2Proof.Machine.execSbcBMemXIncN4 n s
  | .sbcBMemYIncN4 n => Sys2Proof.Machine.execSbcBMemYIncN4 n s
  | .sbcMemXBN4 n => Sys2Proof.Machine.execSbcMemXBN4 n s
  | .sbcMemYBN4 n => Sys2Proof.Machine.execSbcMemYBN4 n s
  | .sbcMemXIncBN4 n => Sys2Proof.Machine.execSbcMemXIncBN4 n s
  | .sbcMemYIncBN4 n => Sys2Proof.Machine.execSbcMemYIncBN4 n s
  | .sbcMemXZeroN4 n => Sys2Proof.Machine.execSbcMemXZeroN4 n s
  | .sbcMemYZeroN4 n => Sys2Proof.Machine.execSbcMemYZeroN4 n s
  | .sbcMemXIncZeroN4 n => Sys2Proof.Machine.execSbcMemXIncZeroN4 n s
  | .sbcMemYIncZeroN4 n => Sys2Proof.Machine.execSbcMemYIncZeroN4 n s
  | .incMemXN4 n => Sys2Proof.Machine.execIncMemXN4 n s
  | .incMemYN4 n => Sys2Proof.Machine.execIncMemYN4 n s
  | .incMemXIncN4 n => Sys2Proof.Machine.execIncMemXIncN4 n s
  | .incMemYIncN4 n => Sys2Proof.Machine.execIncMemYIncN4 n s
  | .decMemXN4 n => Sys2Proof.Machine.execDecMemXN4 n s
  | .decMemYN4 n => Sys2Proof.Machine.execDecMemYN4 n s
  | .decMemXIncN4 n => Sys2Proof.Machine.execDecMemXIncN4 n s
  | .decMemYIncN4 n => Sys2Proof.Machine.execDecMemYIncN4 n s
  -- logic and bit operations (spec/43_logic.md)
  | .andAImm4 v => Sys2Proof.Machine.execAndAImm4 v s
  | .andBImm4 v => Sys2Proof.Machine.execAndBImm4 v s
  | .andMemXImm4 v => Sys2Proof.Machine.execAndMemXImm4 v s
  | .andMemYImm4 v => Sys2Proof.Machine.execAndMemYImm4 v s
  | .andMemXIncImm4 v => Sys2Proof.Machine.execAndMemXIncImm4 v s
  | .andMemYIncImm4 v => Sys2Proof.Machine.execAndMemYIncImm4 v s
  | .andFImm4 v => Sys2Proof.Machine.execAndFImm4 v s
  | .orAImm4 v => Sys2Proof.Machine.execOrAImm4 v s
  | .orBImm4 v => Sys2Proof.Machine.execOrBImm4 v s
  | .orMemXImm4 v => Sys2Proof.Machine.execOrMemXImm4 v s
  | .orMemYImm4 v => Sys2Proof.Machine.execOrMemYImm4 v s
  | .orMemXIncImm4 v => Sys2Proof.Machine.execOrMemXIncImm4 v s
  | .orMemYIncImm4 v => Sys2Proof.Machine.execOrMemYIncImm4 v s
  | .orFImm4 v => Sys2Proof.Machine.execOrFImm4 v s
  | .xorAImm4 v => Sys2Proof.Machine.execXorAImm4 v s
  | .xorBImm4 v => Sys2Proof.Machine.execXorBImm4 v s
  | .xorMemXImm4 v => Sys2Proof.Machine.execXorMemXImm4 v s
  | .xorMemYImm4 v => Sys2Proof.Machine.execXorMemYImm4 v s
  | .xorMemXIncImm4 v => Sys2Proof.Machine.execXorMemXIncImm4 v s
  | .xorMemYIncImm4 v => Sys2Proof.Machine.execXorMemYIncImm4 v s
  | .xorFImm4 v => Sys2Proof.Machine.execXorFImm4 v s
  | .bitAImm4 v => Sys2Proof.Machine.execBitAImm4 v s
  | .bitBImm4 v => Sys2Proof.Machine.execBitBImm4 v s
  | .bitMemXImm4 v => Sys2Proof.Machine.execBitMemXImm4 v s
  | .bitMemYImm4 v => Sys2Proof.Machine.execBitMemYImm4 v s
  | .bitMemXIncImm4 v => Sys2Proof.Machine.execBitMemXIncImm4 v s
  | .bitMemYIncImm4 v => Sys2Proof.Machine.execBitMemYIncImm4 v s
  | .clrMem00Addr6Imm2 a b => Sys2Proof.Machine.execClrMem00Addr6Imm2 a b s
  | .clrMemFFAddr6Imm2 a b => Sys2Proof.Machine.execClrMemFFAddr6Imm2 a b s
  | .setMem00Addr6Imm2 a b => Sys2Proof.Machine.execSetMem00Addr6Imm2 a b s
  | .setMemFFAddr6Imm2 a b => Sys2Proof.Machine.execSetMemFFAddr6Imm2 a b s
  | .tstMem00Addr6Imm2 a b => Sys2Proof.Machine.execTstMem00Addr6Imm2 a b s
  | .tstMemFFAddr6Imm2 a b => Sys2Proof.Machine.execTstMemFFAddr6Imm2 a b s
  -- 8-bit and 16-bit transfer and arithmetic (spec/45_transfer_8_16bit.md)
  | .ldbBAImm8 v => Sys2Proof.Machine.execLdbBAImm8 v s
  | .ldbMemXIncImm8 v => Sys2Proof.Machine.execLdbMemXIncImm8 v s
  | .ldbEXTImm8 v => Sys2Proof.Machine.execLdbEXTImm8 v s
  | .ldbXLImm8 v => Sys2Proof.Machine.execLdbXLImm8 v s
  | .ldbYLImm8 v => Sys2Proof.Machine.execLdbYLImm8 v s
  | .addXSign8 d => Sys2Proof.Machine.execAddXSign8 d s
  | .addYSign8 d => Sys2Proof.Machine.execAddYSign8 d s
  | .cmpXImm8 v => Sys2Proof.Machine.execCmpXImm8 v s
  | .cmpYImm8 v => Sys2Proof.Machine.execCmpYImm8 v s
  -- branch control (spec/47_branch.md)
  | .jrSign8 d => Sys2Proof.Machine.execJrSign8 d s
  | .jrMemAddr6 a => Sys2Proof.Machine.execJrMemAddr6 a s
  | .jrcSign8 d => Sys2Proof.Machine.execJrcSign8 d s
  | .jrncSign8 d => Sys2Proof.Machine.execJrncSign8 d s
  | .jrzSign8 d => Sys2Proof.Machine.execJrzSign8 d s
  | .jrnzSign8 d => Sys2Proof.Machine.execJrnzSign8 d s
  | .calzImm8 v => Sys2Proof.Machine.execCalzImm8 v s
  | .calrSign8 d => Sys2Proof.Machine.execCalrSign8 d s
  | .calrMemAddr6 a => Sys2Proof.Machine.execCalrMemAddr6 a s
  | .retdImm8 v => Sys2Proof.Machine.execRetdImm8 v s
  | .intImm6 v => Sys2Proof.Machine.execIntImm6 v s
  -- 4-bit transfer (spec/40_transfer_4bit.md)
  | .ldAA => Sys2Proof.Machine.execLdAA s
  | .ldAB => Sys2Proof.Machine.execLdAB s
  | .ldAF => Sys2Proof.Machine.execLdAF s
  | .ldBA => Sys2Proof.Machine.execLdBA s
  | .ldBB => Sys2Proof.Machine.execLdBB s
  | .ldFA => Sys2Proof.Machine.execLdFA s
  | .ldAMemX => Sys2Proof.Machine.execLdAMemX s
  | .ldAMemY => Sys2Proof.Machine.execLdAMemY s
  | .ldBMemX => Sys2Proof.Machine.execLdBMemX s
  | .ldBMemY => Sys2Proof.Machine.execLdBMemY s
  | .ldAMemXInc => Sys2Proof.Machine.execLdAMemXInc s
  | .ldAMemYInc => Sys2Proof.Machine.execLdAMemYInc s
  | .ldBMemXInc => Sys2Proof.Machine.execLdBMemXInc s
  | .ldBMemYInc => Sys2Proof.Machine.execLdBMemYInc s
  | .ldMemXA => Sys2Proof.Machine.execLdMemXA s
  | .ldMemXB => Sys2Proof.Machine.execLdMemXB s
  | .ldMemYA => Sys2Proof.Machine.execLdMemYA s
  | .ldMemYB => Sys2Proof.Machine.execLdMemYB s
  | .ldMemXIncA => Sys2Proof.Machine.execLdMemXIncA s
  | .ldMemXIncB => Sys2Proof.Machine.execLdMemXIncB s
  | .ldMemYIncA => Sys2Proof.Machine.execLdMemYIncA s
  | .ldMemYIncB => Sys2Proof.Machine.execLdMemYIncB s
  | .exAB => Sys2Proof.Machine.execExAB s
  | .exAMemX => Sys2Proof.Machine.execExAMemX s
  | .exAMemY => Sys2Proof.Machine.execExAMemY s
  | .exBMemX => Sys2Proof.Machine.execExBMemX s
  | .exBMemY => Sys2Proof.Machine.execExBMemY s
  | .exAMemXInc => Sys2Proof.Machine.execExAMemXInc s
  | .exAMemYInc => Sys2Proof.Machine.execExAMemYInc s
  | .exBMemXInc => Sys2Proof.Machine.execExBMemXInc s
  | .exBMemYInc => Sys2Proof.Machine.execExBMemYInc s
  | .ldMemXMemY => Sys2Proof.Machine.execLdMemXMemY s
  | .ldMemYMemX => Sys2Proof.Machine.execLdMemYMemX s
  | .ldMemXMemYInc => Sys2Proof.Machine.execLdMemXMemYInc s
  | .ldMemYMemXInc => Sys2Proof.Machine.execLdMemYMemXInc s
  | .ldMemXIncMemY => Sys2Proof.Machine.execLdMemXIncMemY s
  | .ldMemYIncMemX => Sys2Proof.Machine.execLdMemYIncMemX s
  | .ldMemXIncMemYInc => Sys2Proof.Machine.execLdMemXIncMemYInc s
  | .ldMemYIncMemXInc => Sys2Proof.Machine.execLdMemYIncMemXInc s
  -- 4-bit arithmetic (spec/41_arithmetic.md)
  | .addAA => Sys2Proof.Machine.execAddAA s
  | .addAB => Sys2Proof.Machine.execAddAB s
  | .addBA => Sys2Proof.Machine.execAddBA s
  | .addBB => Sys2Proof.Machine.execAddBB s
  | .addAMemX => Sys2Proof.Machine.execAddAMemX s
  | .addAMemY => Sys2Proof.Machine.execAddAMemY s
  | .addBMemX => Sys2Proof.Machine.execAddBMemX s
  | .addBMemY => Sys2Proof.Machine.execAddBMemY s
  | .addAMemXInc => Sys2Proof.Machine.execAddAMemXInc s
  | .addAMemYInc => Sys2Proof.Machine.execAddAMemYInc s
  | .addBMemXInc => Sys2Proof.Machine.execAddBMemXInc s
  | .addBMemYInc => Sys2Proof.Machine.execAddBMemYInc s
  | .addMemXA => Sys2Proof.Machine.execAddMemXA s
  | .addMemXB => Sys2Proof.Machine.execAddMemXB s
  | .addMemYA => Sys2Proof.Machine.execAddMemYA s
  | .addMemYB => Sys2Proof.Machine.execAddMemYB s
  | .addMemXIncA => Sys2Proof.Machine.execAddMemXIncA s
  | .addMemXIncB => Sys2Proof.Machine.execAddMemXIncB s
  | .addMemYIncA => Sys2Proof.Machine.execAddMemYIncA s
  | .addMemYIncB => Sys2Proof.Machine.execAddMemYIncB s
  | .adcAA => Sys2Proof.Machine.execAdcAA s
  | .adcAB => Sys2Proof.Machine.execAdcAB s
  | .adcBA => Sys2Proof.Machine.execAdcBA s
  | .adcBB => Sys2Proof.Machine.execAdcBB s
  | .adcAMemX => Sys2Proof.Machine.execAdcAMemX s
  | .adcAMemY => Sys2Proof.Machine.execAdcAMemY s
  | .adcBMemX => Sys2Proof.Machine.execAdcBMemX s
  | .adcBMemY => Sys2Proof.Machine.execAdcBMemY s
  | .adcAMemXInc => Sys2Proof.Machine.execAdcAMemXInc s
  | .adcAMemYInc => Sys2Proof.Machine.execAdcAMemYInc s
  | .adcBMemXInc => Sys2Proof.Machine.execAdcBMemXInc s
  | .adcBMemYInc => Sys2Proof.Machine.execAdcBMemYInc s
  | .adcMemXA => Sys2Proof.Machine.execAdcMemXA s
  | .adcMemXB => Sys2Proof.Machine.execAdcMemXB s
  | .adcMemYA => Sys2Proof.Machine.execAdcMemYA s
  | .adcMemYB => Sys2Proof.Machine.execAdcMemYB s
  | .adcMemXIncA => Sys2Proof.Machine.execAdcMemXIncA s
  | .adcMemXIncB => Sys2Proof.Machine.execAdcMemXIncB s
  | .adcMemYIncA => Sys2Proof.Machine.execAdcMemYIncA s
  | .adcMemYIncB => Sys2Proof.Machine.execAdcMemYIncB s
  | .subAA => Sys2Proof.Machine.execSubAA s
  | .subAB => Sys2Proof.Machine.execSubAB s
  | .subBA => Sys2Proof.Machine.execSubBA s
  | .subBB => Sys2Proof.Machine.execSubBB s
  | .subAMemX => Sys2Proof.Machine.execSubAMemX s
  | .subAMemY => Sys2Proof.Machine.execSubAMemY s
  | .subBMemX => Sys2Proof.Machine.execSubBMemX s
  | .subBMemY => Sys2Proof.Machine.execSubBMemY s
  | .subAMemXInc => Sys2Proof.Machine.execSubAMemXInc s
  | .subAMemYInc => Sys2Proof.Machine.execSubAMemYInc s
  | .subBMemXInc => Sys2Proof.Machine.execSubBMemXInc s
  | .subBMemYInc => Sys2Proof.Machine.execSubBMemYInc s
  | .subMemXA => Sys2Proof.Machine.execSubMemXA s
  | .subMemXB => Sys2Proof.Machine.execSubMemXB s
  | .subMemYA => Sys2Proof.Machine.execSubMemYA s
  | .subMemYB => Sys2Proof.Machine.execSubMemYB s
  | .subMemXIncA => Sys2Proof.Machine.execSubMemXIncA s
  | .subMemXIncB => Sys2Proof.Machine.execSubMemXIncB s
  | .subMemYIncA => Sys2Proof.Machine.execSubMemYIncA s
  | .subMemYIncB => Sys2Proof.Machine.execSubMemYIncB s
  | .sbcAA => Sys2Proof.Machine.execSbcAA s
  | .sbcAB => Sys2Proof.Machine.execSbcAB s
  | .sbcBA => Sys2Proof.Machine.execSbcBA s
  | .sbcBB => Sys2Proof.Machine.execSbcBB s
  | .sbcAMemX => Sys2Proof.Machine.execSbcAMemX s
  | .sbcAMemY => Sys2Proof.Machine.execSbcAMemY s
  | .sbcBMemX => Sys2Proof.Machine.execSbcBMemX s
  | .sbcBMemY => Sys2Proof.Machine.execSbcBMemY s
  | .sbcAMemXInc => Sys2Proof.Machine.execSbcAMemXInc s
  | .sbcAMemYInc => Sys2Proof.Machine.execSbcAMemYInc s
  | .sbcBMemXInc => Sys2Proof.Machine.execSbcBMemXInc s
  | .sbcBMemYInc => Sys2Proof.Machine.execSbcBMemYInc s
  | .sbcMemXA => Sys2Proof.Machine.execSbcMemXA s
  | .sbcMemXB => Sys2Proof.Machine.execSbcMemXB s
  | .sbcMemYA => Sys2Proof.Machine.execSbcMemYA s
  | .sbcMemYB => Sys2Proof.Machine.execSbcMemYB s
  | .sbcMemXIncA => Sys2Proof.Machine.execSbcMemXIncA s
  | .sbcMemXIncB => Sys2Proof.Machine.execSbcMemXIncB s
  | .sbcMemYIncA => Sys2Proof.Machine.execSbcMemYIncA s
  | .sbcMemYIncB => Sys2Proof.Machine.execSbcMemYIncB s
  | .cmpAA => Sys2Proof.Machine.execCmpAA s
  | .cmpAB => Sys2Proof.Machine.execCmpAB s
  | .cmpBA => Sys2Proof.Machine.execCmpBA s
  | .cmpBB => Sys2Proof.Machine.execCmpBB s
  | .cmpAMemX => Sys2Proof.Machine.execCmpAMemX s
  | .cmpAMemY => Sys2Proof.Machine.execCmpAMemY s
  | .cmpBMemX => Sys2Proof.Machine.execCmpBMemX s
  | .cmpBMemY => Sys2Proof.Machine.execCmpBMemY s
  | .cmpAMemXInc => Sys2Proof.Machine.execCmpAMemXInc s
  | .cmpAMemYInc => Sys2Proof.Machine.execCmpAMemYInc s
  | .cmpBMemXInc => Sys2Proof.Machine.execCmpBMemXInc s
  | .cmpBMemYInc => Sys2Proof.Machine.execCmpBMemYInc s
  | .cmpMemXA => Sys2Proof.Machine.execCmpMemXA s
  | .cmpMemXB => Sys2Proof.Machine.execCmpMemXB s
  | .cmpMemYA => Sys2Proof.Machine.execCmpMemYA s
  | .cmpMemYB => Sys2Proof.Machine.execCmpMemYB s
  | .cmpMemXIncA => Sys2Proof.Machine.execCmpMemXIncA s
  | .cmpMemXIncB => Sys2Proof.Machine.execCmpMemXIncB s
  | .cmpMemYIncA => Sys2Proof.Machine.execCmpMemYIncA s
  | .cmpMemYIncB => Sys2Proof.Machine.execCmpMemYIncB s
  -- logic and bit operations (spec/43_logic.md)
  | .andAA => Sys2Proof.Machine.execAndAA s
  | .andAB => Sys2Proof.Machine.execAndAB s
  | .andBA => Sys2Proof.Machine.execAndBA s
  | .andBB => Sys2Proof.Machine.execAndBB s
  | .andAMemX => Sys2Proof.Machine.execAndAMemX s
  | .andAMemY => Sys2Proof.Machine.execAndAMemY s
  | .andBMemX => Sys2Proof.Machine.execAndBMemX s
  | .andBMemY => Sys2Proof.Machine.execAndBMemY s
  | .andAMemXInc => Sys2Proof.Machine.execAndAMemXInc s
  | .andAMemYInc => Sys2Proof.Machine.execAndAMemYInc s
  | .andBMemXInc => Sys2Proof.Machine.execAndBMemXInc s
  | .andBMemYInc => Sys2Proof.Machine.execAndBMemYInc s
  | .andMemXA => Sys2Proof.Machine.execAndMemXA s
  | .andMemXB => Sys2Proof.Machine.execAndMemXB s
  | .andMemYA => Sys2Proof.Machine.execAndMemYA s
  | .andMemYB => Sys2Proof.Machine.execAndMemYB s
  | .andMemXIncA => Sys2Proof.Machine.execAndMemXIncA s
  | .andMemXIncB => Sys2Proof.Machine.execAndMemXIncB s
  | .andMemYIncA => Sys2Proof.Machine.execAndMemYIncA s
  | .andMemYIncB => Sys2Proof.Machine.execAndMemYIncB s
  | .orAA => Sys2Proof.Machine.execOrAA s
  | .orAB => Sys2Proof.Machine.execOrAB s
  | .orBA => Sys2Proof.Machine.execOrBA s
  | .orBB => Sys2Proof.Machine.execOrBB s
  | .orAMemX => Sys2Proof.Machine.execOrAMemX s
  | .orAMemY => Sys2Proof.Machine.execOrAMemY s
  | .orBMemX => Sys2Proof.Machine.execOrBMemX s
  | .orBMemY => Sys2Proof.Machine.execOrBMemY s
  | .orAMemXInc => Sys2Proof.Machine.execOrAMemXInc s
  | .orAMemYInc => Sys2Proof.Machine.execOrAMemYInc s
  | .orBMemXInc => Sys2Proof.Machine.execOrBMemXInc s
  | .orBMemYInc => Sys2Proof.Machine.execOrBMemYInc s
  | .orMemXA => Sys2Proof.Machine.execOrMemXA s
  | .orMemXB => Sys2Proof.Machine.execOrMemXB s
  | .orMemYA => Sys2Proof.Machine.execOrMemYA s
  | .orMemYB => Sys2Proof.Machine.execOrMemYB s
  | .orMemXIncA => Sys2Proof.Machine.execOrMemXIncA s
  | .orMemXIncB => Sys2Proof.Machine.execOrMemXIncB s
  | .orMemYIncA => Sys2Proof.Machine.execOrMemYIncA s
  | .orMemYIncB => Sys2Proof.Machine.execOrMemYIncB s
  | .xorAA => Sys2Proof.Machine.execXorAA s
  | .xorAB => Sys2Proof.Machine.execXorAB s
  | .xorBA => Sys2Proof.Machine.execXorBA s
  | .xorBB => Sys2Proof.Machine.execXorBB s
  | .xorAMemX => Sys2Proof.Machine.execXorAMemX s
  | .xorAMemY => Sys2Proof.Machine.execXorAMemY s
  | .xorBMemX => Sys2Proof.Machine.execXorBMemX s
  | .xorBMemY => Sys2Proof.Machine.execXorBMemY s
  | .xorAMemXInc => Sys2Proof.Machine.execXorAMemXInc s
  | .xorAMemYInc => Sys2Proof.Machine.execXorAMemYInc s
  | .xorBMemXInc => Sys2Proof.Machine.execXorBMemXInc s
  | .xorBMemYInc => Sys2Proof.Machine.execXorBMemYInc s
  | .xorMemXA => Sys2Proof.Machine.execXorMemXA s
  | .xorMemXB => Sys2Proof.Machine.execXorMemXB s
  | .xorMemYA => Sys2Proof.Machine.execXorMemYA s
  | .xorMemYB => Sys2Proof.Machine.execXorMemYB s
  | .xorMemXIncA => Sys2Proof.Machine.execXorMemXIncA s
  | .xorMemXIncB => Sys2Proof.Machine.execXorMemXIncB s
  | .xorMemYIncA => Sys2Proof.Machine.execXorMemYIncA s
  | .xorMemYIncB => Sys2Proof.Machine.execXorMemYIncB s
  | .bitAA => Sys2Proof.Machine.execBitAA s
  | .bitAB => Sys2Proof.Machine.execBitAB s
  | .bitBA => Sys2Proof.Machine.execBitBA s
  | .bitBB => Sys2Proof.Machine.execBitBB s
  | .bitAMemX => Sys2Proof.Machine.execBitAMemX s
  | .bitAMemY => Sys2Proof.Machine.execBitAMemY s
  | .bitBMemX => Sys2Proof.Machine.execBitBMemX s
  | .bitBMemY => Sys2Proof.Machine.execBitBMemY s
  | .bitAMemXInc => Sys2Proof.Machine.execBitAMemXInc s
  | .bitAMemYInc => Sys2Proof.Machine.execBitAMemYInc s
  | .bitBMemXInc => Sys2Proof.Machine.execBitBMemXInc s
  | .bitBMemYInc => Sys2Proof.Machine.execBitBMemYInc s
  | .bitMemXA => Sys2Proof.Machine.execBitMemXA s
  | .bitMemXB => Sys2Proof.Machine.execBitMemXB s
  | .bitMemYA => Sys2Proof.Machine.execBitMemYA s
  | .bitMemYB => Sys2Proof.Machine.execBitMemYB s
  | .bitMemXIncA => Sys2Proof.Machine.execBitMemXIncA s
  | .bitMemXIncB => Sys2Proof.Machine.execBitMemXIncB s
  | .bitMemYIncA => Sys2Proof.Machine.execBitMemYIncA s
  | .bitMemYIncB => Sys2Proof.Machine.execBitMemYIncB s
  -- shifts and rotates (spec/44_shift_rotate.md)
  | .sllA => Sys2Proof.Machine.execSllA s
  | .sllB => Sys2Proof.Machine.execSllB s
  | .sllMemX => Sys2Proof.Machine.execSllMemX s
  | .sllMemY => Sys2Proof.Machine.execSllMemY s
  | .sllMemXInc => Sys2Proof.Machine.execSllMemXInc s
  | .sllMemYInc => Sys2Proof.Machine.execSllMemYInc s
  | .srlA => Sys2Proof.Machine.execSrlA s
  | .srlB => Sys2Proof.Machine.execSrlB s
  | .srlMemX => Sys2Proof.Machine.execSrlMemX s
  | .srlMemY => Sys2Proof.Machine.execSrlMemY s
  | .srlMemXInc => Sys2Proof.Machine.execSrlMemXInc s
  | .srlMemYInc => Sys2Proof.Machine.execSrlMemYInc s
  | .rlA => Sys2Proof.Machine.execRlA s
  | .rlB => Sys2Proof.Machine.execRlB s
  | .rlMemX => Sys2Proof.Machine.execRlMemX s
  | .rlMemY => Sys2Proof.Machine.execRlMemY s
  | .rlMemXInc => Sys2Proof.Machine.execRlMemXInc s
  | .rlMemYInc => Sys2Proof.Machine.execRlMemYInc s
  | .rrA => Sys2Proof.Machine.execRrA s
  | .rrB => Sys2Proof.Machine.execRrB s
  | .rrMemX => Sys2Proof.Machine.execRrMemX s
  | .rrMemY => Sys2Proof.Machine.execRrMemY s
  | .rrMemXInc => Sys2Proof.Machine.execRrMemXInc s
  | .rrMemYInc => Sys2Proof.Machine.execRrMemYInc s
  -- 8-bit and 16-bit transfer and arithmetic (spec/45_transfer_8_16bit.md)
  | .ldbBAMemXInc => Sys2Proof.Machine.execLdbBAMemXInc s
  | .ldbBAMemYInc => Sys2Proof.Machine.execLdbBAMemYInc s
  | .ldbBAEXT => Sys2Proof.Machine.execLdbBAEXT s
  | .ldbBAXL => Sys2Proof.Machine.execLdbBAXL s
  | .ldbBAXH => Sys2Proof.Machine.execLdbBAXH s
  | .ldbBAYL => Sys2Proof.Machine.execLdbBAYL s
  | .ldbBAYH => Sys2Proof.Machine.execLdbBAYH s
  | .ldbBASP1 => Sys2Proof.Machine.execLdbBASP1 s
  | .ldbBASP2 => Sys2Proof.Machine.execLdbBASP2 s
  | .ldbMemXIncBA => Sys2Proof.Machine.execLdbMemXIncBA s
  | .ldbMemYIncBA => Sys2Proof.Machine.execLdbMemYIncBA s
  | .ldbEXTBA => Sys2Proof.Machine.execLdbEXTBA s
  | .ldbXLBA => Sys2Proof.Machine.execLdbXLBA s
  | .ldbXHBA => Sys2Proof.Machine.execLdbXHBA s
  | .ldbYLBA => Sys2Proof.Machine.execLdbYLBA s
  | .ldbYHBA => Sys2Proof.Machine.execLdbYHBA s
  | .ldbSP1BA => Sys2Proof.Machine.execLdbSP1BA s
  | .ldbSP2BA => Sys2Proof.Machine.execLdbSP2BA s
  | .addXBA => Sys2Proof.Machine.execAddXBA s
  | .addYBA => Sys2Proof.Machine.execAddYBA s
  | .incSP1 => Sys2Proof.Machine.execIncSP1 s
  | .incSP2 => Sys2Proof.Machine.execIncSP2 s
  | .decSP1 => Sys2Proof.Machine.execDecSP1 s
  | .decSP2 => Sys2Proof.Machine.execDecSP2 s
  -- stack operation (spec/46_stack.md)
  | .pushA => Sys2Proof.Machine.execPushA s
  | .pushB => Sys2Proof.Machine.execPushB s
  | .pushF => Sys2Proof.Machine.execPushF s
  | .popA => Sys2Proof.Machine.execPopA s
  | .popB => Sys2Proof.Machine.execPopB s
  | .popF => Sys2Proof.Machine.execPopF s
  | .pushX => Sys2Proof.Machine.execPushX s
  | .pushY => Sys2Proof.Machine.execPushY s
  | .popX => Sys2Proof.Machine.execPopX s
  | .popY => Sys2Proof.Machine.execPopY s
  -- branch control (spec/47_branch.md)
  | .jrA => Sys2Proof.Machine.execJrA s
  | .jrBA => Sys2Proof.Machine.execJrBA s
  | .jpY => Sys2Proof.Machine.execJpY s
  | .ret => Sys2Proof.Machine.execRet s
  | .rets => Sys2Proof.Machine.execRets s
  | .reti => Sys2Proof.Machine.execReti s
  -- system control (spec/48_system.md)
  | .nop => Sys2Proof.Machine.execNop s
  | .halt => Sys2Proof.Machine.execHalt s
  | .slp => Sys2Proof.Machine.execSlp s

end Sys2Proof.Machine
end

