-- ==== Sys2Proof/Machine/Interrupt.lean ====
section
/-! DEFINITION. What happens at an instruction boundary before the next fetch: the environment's input, reset, the NMI latch,
acceptance of a hardware interrupt, and standby (spec/60_exceptions.md R303 to R310, R325 to R330;
spec/70_reset_and_hazards.md R350 to R357). -/

namespace Sys2Proof.Machine

/-! ### The pins that follow the state (R331) -/

/-- The IF output: the inverse of the I flag (R22, R331). -/
def pinIf (s : State) : Bool := !flagI s.f

/-- The STOP output: low in HALT, in SLEEP and in reset status (R325, R331, R350). -/
def pinStop (s : State) : Bool := decide (s.run = .run) && !s.inReset

/-- The USLP output: low from the execution of `SLP` until SLEEP ends (R331, R403). -/
def pinUslp (s : State) : Bool := !decide (s.run = .sleep)

/-! ### Requests -/

/-- What the model refuses in an input: vector number 0 (R304, D20) and a number that is no source of this configuration (R6). -/
def inputRefusal (c : Config) (i : BoundaryInput) : Option Refusal :=
  match i.irq with
  | none => none
  | some v => if v = 0#4 then some .irqVectorZero else if c.irqSources.contains v then none else some (.irqNotASource v)

/-- In SLEEP only a source that `SLEEP_WAKE` lists can request (R327 c, R330). This holds from the boundary directly after `SLP`
on: an NMI edge that fell while `SLP` executed, or an IRQ low since before it, is offered there and dropped if its source is not
listed. R400 e (a pending, acceptable interrupt is taken at the boundary directly after `SLP`) leaves that open; it is the model's
choice (assumption 34, DESIGN CHOICE, unsafe). -/
def canRequest (s : State) (w : WakeSource) : Bool :=
  match s.run with
  | .sleep => s.cfg.sleepWake.contains w
  | _ => true

/-- The NMI latch after a boundary's input: set by an edge, further edges absorbed (R303, D18). What `SLEEP_WAKE` keeps out in
SLEEP is a new edge alone: that a request latched before `SLP` stays is the model's choice (assumption 32, DESIGN CHOICE). An edge
offered at the first boundary with SR high after a reset is latched too, although it may have fallen while SR was still low: R355
loses an edge of the reset, R330 does not say how this one counts, and the model's choice is to keep it (assumption 35, DESIGN
CHOICE, unsafe). -/
def latchNmi (i : BoundaryInput) (s : State) : State :=
  { s with nmiPending := s.nmiPending || (i.nmiEdge && canRequest s .nmi) }

/-- The IRQ line as the core sees it (R304). -/
def irqLine (i : BoundaryInput) (s : State) : Option Nibble :=
  match i.irq with
  | none => none
  | some v => if canRequest s (.irq v) then some v else none

/-- Neither the pair mask nor `defer` holds interrupts off at this boundary (R306 a and b). -/
def boundaryOpen (s : State) : Bool := decide (s.pairMask = .pairSet) && !s.defer

/-- Acceptance of an NMI: the latch is cleared, IACK and NACK go low, the vector is 0 (R308, R331). -/
def acceptNmi (s : State) : Except Fault State := enterInterrupt 0#4 ({ s with nmiPending := false }.emit .nmiAck)

/-- Acceptance of an IRQ: IACK goes low and the vector number is read (R308, R331). -/
def acceptIrq (v : Nibble) (s : State) : Except Fault State := enterInterrupt v ((s.emit .irqAck).emit (.vectorRead v))

/-- The interrupt accepted at this boundary, if any: NMI before IRQ, IRQ only with I = 1 (R305, R306). It does not look at
`SLEEP_WAKE`: an NMI latched before `SLP` and held off by `defer` is accepted at the boundary after `SLP`, and so ends SLEEP, also
where `SLEEP_WAKE` does not list NMI. R327 c and R400 e leave that open; it is the model's choice (assumption 32, DESIGN CHOICE,
unsafe). -/
def accepted (irq : Option Nibble) (s : State) : Option (Except Fault State) :=
  if boundaryOpen s then
    if s.nmiPending then some (acceptNmi s)
    else
      match irq with
      | some v => if flagI s.f then some (acceptIrq v s) else none
      | none => none
  else none

/-- A boundary with an input (R307): reset first, then an interrupt, then standby stays or the core goes on with `run`. -/
def atBoundary (i : BoundaryInput) (run : State → Host.Outcome State Fault Refusal) (s : State) :
    Host.Outcome State Fault Refusal :=
  match inputRefusal s.cfg i with
  | some r => .refused r
  | none =>
    if i.reset then .next (resetEvent s)
    else
      match accepted (irqLine i s) (latchNmi i s) with
      | some r => finish r
      | none =>
        match s.run with
        | .run => run (latchNmi i s)
        | _ => .next (latchNmi i s)

/-- The input of a boundary for which the environment offers nothing. -/
def quietInput : BoundaryInput := ⟨false, false, none⟩

/-- The boundary before the next fetch, one input of the environment's stream consumed. In standby with the stream at its end and
nothing to accept, the run is over (R357 b, D16). -/
def boundary (run : State → Host.Outcome State Fault Refusal) (s : State) : Host.Outcome State Fault Refusal :=
  match s.inputs with
  | i :: _ => atBoundary i run s.takeInput
  | [] =>
    match s.run, accepted none s with
    | .halt, none => .fault .quiescent
    | .sleep, none => .fault .quiescent
    | _, _ => atBoundary quietInput run s.takeInput

end Sys2Proof.Machine
end

