-- ==== Sys2Proof/Machine/Step.lean ====
section
/-! DEFINITION. One step of the machine (spec/30_encoding.md R93): the boundary, then fetch, decode, execute. -/

namespace Sys2Proof.Machine

/-- Fetch, decode and execute one instruction (R93); a reserved word is the model fault `ReservedEncoding` (R75). -/
def runInstruction (s : State) : Host.Outcome State Fault Refusal :=
  match fetch s with
  | .error e => .fault e
  | .ok w =>
    match decode w with
    | none => .fault (.reservedEncoding s.pc w)
    | some i => exec i s

/-- One step: an interrupt entry, a reset, a moment of standby, or one instruction (R93, R307). -/
def step (s : State) : Host.Outcome State Fault Refusal := boundary runInstruction s

/-- The state with an instruction's bits placed at PC, where the next step fetches; every instruction is one 13-bit word, so
only the low 13 bits of `w` matter (assumption 5). -/
def State.withFetchWord (s : State) (_nbits w : Nat) : State := placeWord s (BitVec.ofNat 13 w)

end Sys2Proof.Machine
end

