-- ==== Sys2Proof/Safety.lean ====
section
/-! DEFINITION. What a legal configuration is, what every step keeps, and which ends of a run are the machine's own and which
are verdicts of the model (spec/00_scope.md R6, spec/60_exceptions.md R316, spec/70_reset_and_hazards.md R357). -/

namespace Sys2Proof

/-- A configuration a family model can have (R6): program words 1 to 65536; regions inside the data space; the 16-bit range a
sub-range of 0000H to 03FFH aligned to 4 words and made of RAM; vector numbers not 0; wake sources among the sources. -/
structure Config.Legal (c : Config) : Prop where
  romWords : 1 ≤ c.romWords ∧ c.romWords ≤ 65536
  regions : ∀ r ∈ c.dataMap, r.base + r.size ≤ 65536
  ram16 : c.ram16Lo % 4 = 0 ∧ c.ram16Hi % 4 = 0 ∧ c.ram16Lo ≤ c.ram16Hi ∧ c.ram16Hi ≤ 0x400
  ram16IsRam : ∀ a, c.ram16Lo ≤ a → a < c.ram16Hi → Machine.kindIn c.dataMap a = some .ram
  sources : ∀ v ∈ c.irqSources, v ≠ 0#4
  wake : ∀ v, WakeSource.irq v ∈ c.sleepWake → v ∈ c.irqSources

namespace Machine

/-- What holds of every state the machine can be in between instructions. -/
structure State.Inv (s : State) : Prop where
  /-- Data memory is in canonical form. -/
  memory : Memory.wf s.mem = true
  /-- Program memory is in canonical form. -/
  program : ProgramMemory.wf s.prog = true
  /-- The configuration is one a family model can have. -/
  config : s.cfg.Legal
  /-- Every data word that is listed stands in RAM or in data ROM. -/
  contents : ∀ a v, Cells.lookup s.mem a = some v → kindIn s.cfg.dataMap a = some .ram ∨ kindIn s.cfg.dataMap a = some .rom
  /-- E is 1 only where interrupts are deferred, so no handler's first instruction is extended (R33, R316 c). -/
  extended : flagE s.f = true → s.defer = true
  /-- `defer` is 0 in standby (R327). -/
  standby : s.run ≠ .run → s.defer = false
  /-- In reset status the core is as `ResetEvent` leaves it (R350, R351). -/
  reset : s.inReset = true → s.run = .run ∧ s.pc = 0x0110#16 ∧ s.pairMask = .bothUnset ∧ s.defer = false ∧ s.nmiPending = false

/-- The end of a run that the machine reaches by itself; every other fault is a verdict of the model (R357 a and b). -/
def Fault.isQuiescence (e : Fault) : Bool :=
  match e with
  | .quiescent => true
  | .reservedEncoding _ _ | .extMisuse _ _ | .undefinedRead _ | .undefinedQueue | .unmappedFetch _ | .unmappedRead _
    | .unmappedWrite _ | .stack16OutsideRam16 _ => false

/-- A step is safe if the machine goes on or has reached its own end: no model fault, nothing refused. -/
def SafeStep (s : State) : Prop :=
  match step s with
  | .next _ => True
  | .fault e => e.isQuiescence = true
  | .refused _ => False

end Machine

end Sys2Proof
end

