-- ==== Sys2Proof/Certificates/Slice0/Forms.lean ====
section
/-! DEFINITION. The vocabulary of the statements: for every operand form the instruction it is, so that a statement ranges over
mnemonics and registers, and the state an instruction leaves. No part of the machine refers to this file. -/

namespace Sys2Proof.Machine

/-! ### How an instruction leaves the state -/

/-- `s` at the end of an instruction that took `cyc` cycles and goes on at `pc`: C and Z as given, E = 0, I as it was, nothing
deferred (R17, R24, R33, R365). -/
def ended (s : State) (cyc : Nat) (pc : Addr) (c z : Bool) : State :=
  { s with pc := pc, f := packF false (flagI s.f) c z, defer := false, cycles := s.cycles + cyc }

/-- The same with C and Z as they were. -/
def endedSameCZ (s : State) (cyc : Nat) (pc : Addr) : State := ended s cyc pc (flagC s.f) (flagZ s.f)

/-- `s` at the end of an instruction that replaces F whole: `defer` is set (R24, R33). -/
def endedWithF (s : State) (cyc : Nat) (pc : Addr) (f : Nibble) : State :=
  { s with pc := pc, f := f, defer := true, cycles := s.cycles + cyc }

/-- The address of the next instruction in sequence (R15). -/
def nextPc (s : State) : Addr := s.pc + 1#16

/-- `s` after a 4-bit push of `v`: the word below SP2 written (R381 g). -/
def pushed4 (s : State) (v : Nibble) : State :=
  { s with sp2 := s.sp2 - 1#8, mem := Cells.insert s.mem (eaSp2 (s.sp2 - 1#8)).toNat v }

/-- `s` after a 4-bit pop: SP2 moved (R381 g). -/
def popped4 (s : State) : State := { s with sp2 := s.sp2 + 1#8 }

/-- `s` after a 16-bit push of `v`: the entry below SP1 written, Q the same value (R30 case 1, R381 e). -/
def pushed16 (s : State) (v : Addr) : State :=
  { s with sp1 := s.sp1 - 1#8, q := some v, mem := insert16 s.mem (eaSp1 (s.sp1 - 1#8)).toNat v }

/-- `s` after a 16-bit pop: SP1 moved, Q refilled from the entry it now points to (R30 case 2, R381 f). -/
def popped16 (s : State) : State :=
  { s with sp1 := s.sp1 + 1#8, q := lookup16 s.mem (eaSp1 (s.sp1 + 1#8)).toNat }

/-- The instruction `i` reads the word at `a`, writes back what `op` makes of it and `y`, takes C and Z from it, then does `post`. -/
def ModifiesWord (i : Instr) (cyc : Nat) (op : AluOp) (a : Addr) (y : Nibble) (post : State → State) (s : State) : Prop :=
  ∀ x s1 s2 o, readWord s a = .ok (x, s1) → op (flagC s.f) x y = o → writeWord s1 a o.res = .ok s2 →
    exec i s = .next (ended (post s2) cyc (nextPc s) o.c o.z)

/-- The instruction `i` reads the word at `a`, takes C and Z from what `op` makes of it and `y`, writes nothing, then does
`post`. -/
def TestsWord (i : Instr) (op : AluOp) (a : Addr) (y : Nibble) (post : State → State) (s : State) : Prop :=
  ∀ x s1 o, readWord s a = .ok (x, s1) → op (flagC s.f) x y = o →
    exec i s = .next (ended (post s1) 1 (nextPc s) o.c o.z)

/-- The boundary before the next fetch holds nothing: the core runs, the environment offers nothing, and no latched NMI can be
taken (R306, R307). -/
def QuietBoundary (s : State) : Prop :=
  s.run = .run ∧ (s.inputs = [] ∨ ∃ rest, s.inputs = quietInput :: rest) ∧
    (s.nmiPending = true → s.pairMask = .pairSet → s.defer = true)

/-- The state an instruction starts from: the boundary has taken its input, SR is high. -/
def afterInput (s : State) : State := { s with inputs := s.inputs.tail, inReset := false }

/-- What the environment offers at the boundary before the next fetch; nothing where the list is empty (assumption 8). -/
def offered (s : State) : BoundaryInput := s.inputs.headD quietInput

/-- The word a data address holds, if one has been written. -/
def wordAt (s : State) (n : Nat) : Option Nibble := Cells.lookup s.mem n

/-! ### Two 4-bit operands (R120, R210) -/

/-- The mnemonics that store the result of two 4-bit operands. -/
inductive BinOp where
  | add
  | adc
  | sub
  | sbc
  | and
  | or
  | xor
deriving DecidableEq, Repr

/-- What each computes (R121, R210). -/
def BinOp.alu (op : BinOp) : AluOp :=
  match op with
  | .add => aluAdd
  | .adc => aluAdc
  | .sub => aluSub
  | .sbc => aluSbc
  | .and => aluAnd
  | .or => aluOr
  | .xor => aluXor

/-- `op %r,%r'`. -/
def BinOp.regReg (op : BinOp) (r : Reg) (q : Reg) : Instr :=
  match op, r, q with
  | .add, .a, .a => .addAA
  | .add, .a, .b => .addAB
  | .add, .b, .a => .addBA
  | .add, .b, .b => .addBB
  | .adc, .a, .a => .adcAA
  | .adc, .a, .b => .adcAB
  | .adc, .b, .a => .adcBA
  | .adc, .b, .b => .adcBB
  | .sub, .a, .a => .subAA
  | .sub, .a, .b => .subAB
  | .sub, .b, .a => .subBA
  | .sub, .b, .b => .subBB
  | .sbc, .a, .a => .sbcAA
  | .sbc, .a, .b => .sbcAB
  | .sbc, .b, .a => .sbcBA
  | .sbc, .b, .b => .sbcBB
  | .and, .a, .a => .andAA
  | .and, .a, .b => .andAB
  | .and, .b, .a => .andBA
  | .and, .b, .b => .andBB
  | .or, .a, .a => .orAA
  | .or, .a, .b => .orAB
  | .or, .b, .a => .orBA
  | .or, .b, .b => .orBB
  | .xor, .a, .a => .xorAA
  | .xor, .a, .b => .xorAB
  | .xor, .b, .a => .xorBA
  | .xor, .b, .b => .xorBB

/-- `op %r,imm4`. -/
def BinOp.regImm (op : BinOp) (r : Reg) (i : Nibble) : Instr :=
  match op, r with
  | .add, .a => .addAImm4 i
  | .add, .b => .addBImm4 i
  | .adc, .a => .adcAImm4 i
  | .adc, .b => .adcBImm4 i
  | .sub, .a => .subAImm4 i
  | .sub, .b => .subBImm4 i
  | .sbc, .a => .sbcAImm4 i
  | .sbc, .b => .sbcBImm4 i
  | .and, .a => .andAImm4 i
  | .and, .b => .andBImm4 i
  | .or, .a => .orAImm4 i
  | .or, .b => .orBImm4 i
  | .xor, .a => .xorAImm4 i
  | .xor, .b => .xorBImm4 i

/-- `op %r,[%ir]`. -/
def BinOp.regMem (op : BinOp) (r : Reg) (k : Idx) : Instr :=
  match op, r, k with
  | .add, .a, .x => .addAMemX
  | .add, .a, .y => .addAMemY
  | .add, .b, .x => .addBMemX
  | .add, .b, .y => .addBMemY
  | .adc, .a, .x => .adcAMemX
  | .adc, .a, .y => .adcAMemY
  | .adc, .b, .x => .adcBMemX
  | .adc, .b, .y => .adcBMemY
  | .sub, .a, .x => .subAMemX
  | .sub, .a, .y => .subAMemY
  | .sub, .b, .x => .subBMemX
  | .sub, .b, .y => .subBMemY
  | .sbc, .a, .x => .sbcAMemX
  | .sbc, .a, .y => .sbcAMemY
  | .sbc, .b, .x => .sbcBMemX
  | .sbc, .b, .y => .sbcBMemY
  | .and, .a, .x => .andAMemX
  | .and, .a, .y => .andAMemY
  | .and, .b, .x => .andBMemX
  | .and, .b, .y => .andBMemY
  | .or, .a, .x => .orAMemX
  | .or, .a, .y => .orAMemY
  | .or, .b, .x => .orBMemX
  | .or, .b, .y => .orBMemY
  | .xor, .a, .x => .xorAMemX
  | .xor, .a, .y => .xorAMemY
  | .xor, .b, .x => .xorBMemX
  | .xor, .b, .y => .xorBMemY

/-- `op [%ir],%r`. -/
def BinOp.memReg (op : BinOp) (k : Idx) (r : Reg) : Instr :=
  match op, k, r with
  | .add, .x, .a => .addMemXA
  | .add, .x, .b => .addMemXB
  | .add, .y, .a => .addMemYA
  | .add, .y, .b => .addMemYB
  | .adc, .x, .a => .adcMemXA
  | .adc, .x, .b => .adcMemXB
  | .adc, .y, .a => .adcMemYA
  | .adc, .y, .b => .adcMemYB
  | .sub, .x, .a => .subMemXA
  | .sub, .x, .b => .subMemXB
  | .sub, .y, .a => .subMemYA
  | .sub, .y, .b => .subMemYB
  | .sbc, .x, .a => .sbcMemXA
  | .sbc, .x, .b => .sbcMemXB
  | .sbc, .y, .a => .sbcMemYA
  | .sbc, .y, .b => .sbcMemYB
  | .and, .x, .a => .andMemXA
  | .and, .x, .b => .andMemXB
  | .and, .y, .a => .andMemYA
  | .and, .y, .b => .andMemYB
  | .or, .x, .a => .orMemXA
  | .or, .x, .b => .orMemXB
  | .or, .y, .a => .orMemYA
  | .or, .y, .b => .orMemYB
  | .xor, .x, .a => .xorMemXA
  | .xor, .x, .b => .xorMemXB
  | .xor, .y, .a => .xorMemYA
  | .xor, .y, .b => .xorMemYB

/-- `op [%ir],imm4`. -/
def BinOp.memImm (op : BinOp) (k : Idx) (i : Nibble) : Instr :=
  match op, k with
  | .add, .x => .addMemXImm4 i
  | .add, .y => .addMemYImm4 i
  | .adc, .x => .adcMemXImm4 i
  | .adc, .y => .adcMemYImm4 i
  | .sub, .x => .subMemXImm4 i
  | .sub, .y => .subMemYImm4 i
  | .sbc, .x => .sbcMemXImm4 i
  | .sbc, .y => .sbcMemYImm4 i
  | .and, .x => .andMemXImm4 i
  | .and, .y => .andMemYImm4 i
  | .or, .x => .orMemXImm4 i
  | .or, .y => .orMemYImm4 i
  | .xor, .x => .xorMemXImm4 i
  | .xor, .y => .xorMemYImm4 i

/-- `op %r,[%ir]+`. -/
def BinOp.regMemInc (op : BinOp) (r : Reg) (k : Idx) : Instr :=
  match op, r, k with
  | .add, .a, .x => .addAMemXInc
  | .add, .a, .y => .addAMemYInc
  | .add, .b, .x => .addBMemXInc
  | .add, .b, .y => .addBMemYInc
  | .adc, .a, .x => .adcAMemXInc
  | .adc, .a, .y => .adcAMemYInc
  | .adc, .b, .x => .adcBMemXInc
  | .adc, .b, .y => .adcBMemYInc
  | .sub, .a, .x => .subAMemXInc
  | .sub, .a, .y => .subAMemYInc
  | .sub, .b, .x => .subBMemXInc
  | .sub, .b, .y => .subBMemYInc
  | .sbc, .a, .x => .sbcAMemXInc
  | .sbc, .a, .y => .sbcAMemYInc
  | .sbc, .b, .x => .sbcBMemXInc
  | .sbc, .b, .y => .sbcBMemYInc
  | .and, .a, .x => .andAMemXInc
  | .and, .a, .y => .andAMemYInc
  | .and, .b, .x => .andBMemXInc
  | .and, .b, .y => .andBMemYInc
  | .or, .a, .x => .orAMemXInc
  | .or, .a, .y => .orAMemYInc
  | .or, .b, .x => .orBMemXInc
  | .or, .b, .y => .orBMemYInc
  | .xor, .a, .x => .xorAMemXInc
  | .xor, .a, .y => .xorAMemYInc
  | .xor, .b, .x => .xorBMemXInc
  | .xor, .b, .y => .xorBMemYInc

/-- `op [%ir]+,%r`. -/
def BinOp.memIncReg (op : BinOp) (k : Idx) (r : Reg) : Instr :=
  match op, k, r with
  | .add, .x, .a => .addMemXIncA
  | .add, .x, .b => .addMemXIncB
  | .add, .y, .a => .addMemYIncA
  | .add, .y, .b => .addMemYIncB
  | .adc, .x, .a => .adcMemXIncA
  | .adc, .x, .b => .adcMemXIncB
  | .adc, .y, .a => .adcMemYIncA
  | .adc, .y, .b => .adcMemYIncB
  | .sub, .x, .a => .subMemXIncA
  | .sub, .x, .b => .subMemXIncB
  | .sub, .y, .a => .subMemYIncA
  | .sub, .y, .b => .subMemYIncB
  | .sbc, .x, .a => .sbcMemXIncA
  | .sbc, .x, .b => .sbcMemXIncB
  | .sbc, .y, .a => .sbcMemYIncA
  | .sbc, .y, .b => .sbcMemYIncB
  | .and, .x, .a => .andMemXIncA
  | .and, .x, .b => .andMemXIncB
  | .and, .y, .a => .andMemYIncA
  | .and, .y, .b => .andMemYIncB
  | .or, .x, .a => .orMemXIncA
  | .or, .x, .b => .orMemXIncB
  | .or, .y, .a => .orMemYIncA
  | .or, .y, .b => .orMemYIncB
  | .xor, .x, .a => .xorMemXIncA
  | .xor, .x, .b => .xorMemXIncB
  | .xor, .y, .a => .xorMemYIncA
  | .xor, .y, .b => .xorMemYIncB

/-- `op [%ir]+,imm4`. -/
def BinOp.memIncImm (op : BinOp) (k : Idx) (i : Nibble) : Instr :=
  match op, k with
  | .add, .x => .addMemXIncImm4 i
  | .add, .y => .addMemYIncImm4 i
  | .adc, .x => .adcMemXIncImm4 i
  | .adc, .y => .adcMemYIncImm4 i
  | .sub, .x => .subMemXIncImm4 i
  | .sub, .y => .subMemYIncImm4 i
  | .sbc, .x => .sbcMemXIncImm4 i
  | .sbc, .y => .sbcMemYIncImm4 i
  | .and, .x => .andMemXIncImm4 i
  | .and, .y => .andMemYIncImm4 i
  | .or, .x => .orMemXIncImm4 i
  | .or, .y => .orMemYIncImm4 i
  | .xor, .x => .xorMemXIncImm4 i
  | .xor, .y => .xorMemYIncImm4 i

/-- The mnemonics that keep only the flags of two 4-bit operands. -/
inductive TestOp where
  | cmp
  | bit
deriving DecidableEq, Repr

/-- CMP is SUB and BIT is AND without the store (R120, R210). -/
def TestOp.alu (op : TestOp) : AluOp :=
  match op with
  | .cmp => aluSub
  | .bit => aluAnd

/-- `op %r,%r'`. -/
def TestOp.regReg (op : TestOp) (r : Reg) (q : Reg) : Instr :=
  match op, r, q with
  | .cmp, .a, .a => .cmpAA
  | .cmp, .a, .b => .cmpAB
  | .cmp, .b, .a => .cmpBA
  | .cmp, .b, .b => .cmpBB
  | .bit, .a, .a => .bitAA
  | .bit, .a, .b => .bitAB
  | .bit, .b, .a => .bitBA
  | .bit, .b, .b => .bitBB

/-- `op %r,imm4`. -/
def TestOp.regImm (op : TestOp) (r : Reg) (i : Nibble) : Instr :=
  match op, r with
  | .cmp, .a => .cmpAImm4 i
  | .cmp, .b => .cmpBImm4 i
  | .bit, .a => .bitAImm4 i
  | .bit, .b => .bitBImm4 i

/-- `op %r,[%ir]`. -/
def TestOp.regMem (op : TestOp) (r : Reg) (k : Idx) : Instr :=
  match op, r, k with
  | .cmp, .a, .x => .cmpAMemX
  | .cmp, .a, .y => .cmpAMemY
  | .cmp, .b, .x => .cmpBMemX
  | .cmp, .b, .y => .cmpBMemY
  | .bit, .a, .x => .bitAMemX
  | .bit, .a, .y => .bitAMemY
  | .bit, .b, .x => .bitBMemX
  | .bit, .b, .y => .bitBMemY

/-- `op [%ir],%r`. -/
def TestOp.memReg (op : TestOp) (k : Idx) (r : Reg) : Instr :=
  match op, k, r with
  | .cmp, .x, .a => .cmpMemXA
  | .cmp, .x, .b => .cmpMemXB
  | .cmp, .y, .a => .cmpMemYA
  | .cmp, .y, .b => .cmpMemYB
  | .bit, .x, .a => .bitMemXA
  | .bit, .x, .b => .bitMemXB
  | .bit, .y, .a => .bitMemYA
  | .bit, .y, .b => .bitMemYB

/-- `op [%ir],imm4`. -/
def TestOp.memImm (op : TestOp) (k : Idx) (i : Nibble) : Instr :=
  match op, k with
  | .cmp, .x => .cmpMemXImm4 i
  | .cmp, .y => .cmpMemYImm4 i
  | .bit, .x => .bitMemXImm4 i
  | .bit, .y => .bitMemYImm4 i

/-- `op %r,[%ir]+`. -/
def TestOp.regMemInc (op : TestOp) (r : Reg) (k : Idx) : Instr :=
  match op, r, k with
  | .cmp, .a, .x => .cmpAMemXInc
  | .cmp, .a, .y => .cmpAMemYInc
  | .cmp, .b, .x => .cmpBMemXInc
  | .cmp, .b, .y => .cmpBMemYInc
  | .bit, .a, .x => .bitAMemXInc
  | .bit, .a, .y => .bitAMemYInc
  | .bit, .b, .x => .bitBMemXInc
  | .bit, .b, .y => .bitBMemYInc

/-- `op [%ir]+,%r`. -/
def TestOp.memIncReg (op : TestOp) (k : Idx) (r : Reg) : Instr :=
  match op, k, r with
  | .cmp, .x, .a => .cmpMemXIncA
  | .cmp, .x, .b => .cmpMemXIncB
  | .cmp, .y, .a => .cmpMemYIncA
  | .cmp, .y, .b => .cmpMemYIncB
  | .bit, .x, .a => .bitMemXIncA
  | .bit, .x, .b => .bitMemXIncB
  | .bit, .y, .a => .bitMemYIncA
  | .bit, .y, .b => .bitMemYIncB

/-- `op [%ir]+,imm4`. -/
def TestOp.memIncImm (op : TestOp) (k : Idx) (i : Nibble) : Instr :=
  match op, k with
  | .cmp, .x => .cmpMemXIncImm4 i
  | .cmp, .y => .cmpMemYIncImm4 i
  | .bit, .x => .bitMemXIncImm4 i
  | .bit, .y => .bitMemYIncImm4 i

/-! ### One operand: shifts and rotates (R250) -/

/-- The shifts and rotates. -/
inductive ShiftOp where
  | sll
  | srl
  | rl
  | rr
deriving DecidableEq, Repr

/-- What each computes (R250). -/
def ShiftOp.alu (op : ShiftOp) : AluOp :=
  match op with
  | .sll => aluSll
  | .srl => aluSrl
  | .rl => aluRl
  | .rr => aluRr

/-- `op %r`. -/
def ShiftOp.reg (op : ShiftOp) (r : Reg) : Instr :=
  match op, r with
  | .sll, .a => .sllA
  | .sll, .b => .sllB
  | .srl, .a => .srlA
  | .srl, .b => .srlB
  | .rl, .a => .rlA
  | .rl, .b => .rlB
  | .rr, .a => .rrA
  | .rr, .b => .rrB

/-- `op [%ir]`. -/
def ShiftOp.mem (op : ShiftOp) (k : Idx) : Instr :=
  match op, k with
  | .sll, .x => .sllMemX
  | .sll, .y => .sllMemY
  | .srl, .x => .srlMemX
  | .srl, .y => .srlMemY
  | .rl, .x => .rlMemX
  | .rl, .y => .rlMemY
  | .rr, .x => .rrMemX
  | .rr, .y => .rrMemY

/-- `op [%ir]+`. -/
def ShiftOp.memInc (op : ShiftOp) (k : Idx) : Instr :=
  match op, k with
  | .sll, .x => .sllMemXInc
  | .sll, .y => .sllMemYInc
  | .srl, .x => .srlMemXInc
  | .srl, .y => .srlMemYInc
  | .rl, .x => .rlMemXInc
  | .rl, .y => .rlMemYInc
  | .rr, .x => .rrMemXInc
  | .rr, .y => .rrMemYInc

/-! ### Radix arithmetic (R183) -/

/-- The two-operand radix mnemonics. -/
inductive RadixOp where
  | adc
  | sbc
deriving DecidableEq, Repr

/-- What each computes (R180, R181). -/
def RadixOp.alu (op : RadixOp) (n : Nat) : AluOp :=
  match op with
  | .adc => aluAdcRadix n
  | .sbc => aluSbcRadix n

/-- `op %B,%A,n4`. -/
def RadixOp.regReg (op : RadixOp) (n : Nat) : Instr :=
  match op with
  | .adc => .adcBAN4 n
  | .sbc => .sbcBAN4 n

/-- `op %B,[%ir],n4`. -/
def RadixOp.regMem (op : RadixOp) (k : Idx) (n : Nat) : Instr :=
  match op, k with
  | .adc, .x => .adcBMemXN4 n
  | .adc, .y => .adcBMemYN4 n
  | .sbc, .x => .sbcBMemXN4 n
  | .sbc, .y => .sbcBMemYN4 n

/-- `op [%ir],%B,n4`. -/
def RadixOp.memReg (op : RadixOp) (k : Idx) (n : Nat) : Instr :=
  match op, k with
  | .adc, .x => .adcMemXBN4 n
  | .adc, .y => .adcMemYBN4 n
  | .sbc, .x => .sbcMemXBN4 n
  | .sbc, .y => .sbcMemYBN4 n

/-- `op [%ir],0,n4`. -/
def RadixOp.memZero (op : RadixOp) (k : Idx) (n : Nat) : Instr :=
  match op, k with
  | .adc, .x => .adcMemXZeroN4 n
  | .adc, .y => .adcMemYZeroN4 n
  | .sbc, .x => .sbcMemXZeroN4 n
  | .sbc, .y => .sbcMemYZeroN4 n

/-- `op %B,[%ir]+,n4`. -/
def RadixOp.regMemInc (op : RadixOp) (k : Idx) (n : Nat) : Instr :=
  match op, k with
  | .adc, .x => .adcBMemXIncN4 n
  | .adc, .y => .adcBMemYIncN4 n
  | .sbc, .x => .sbcBMemXIncN4 n
  | .sbc, .y => .sbcBMemYIncN4 n

/-- `op [%ir]+,%B,n4`. -/
def RadixOp.memIncReg (op : RadixOp) (k : Idx) (n : Nat) : Instr :=
  match op, k with
  | .adc, .x => .adcMemXIncBN4 n
  | .adc, .y => .adcMemYIncBN4 n
  | .sbc, .x => .sbcMemXIncBN4 n
  | .sbc, .y => .sbcMemYIncBN4 n

/-- `op [%ir]+,0,n4`. -/
def RadixOp.memIncZero (op : RadixOp) (k : Idx) (n : Nat) : Instr :=
  match op, k with
  | .adc, .x => .adcMemXIncZeroN4 n
  | .adc, .y => .adcMemYIncZeroN4 n
  | .sbc, .x => .sbcMemXIncZeroN4 n
  | .sbc, .y => .sbcMemYIncZeroN4 n

/-- INC and DEC. -/
inductive StepOp where
  | inc
  | dec
deriving DecidableEq, Repr

/-- In radix n, of y = 1 (R198, R200). -/
def StepOp.alu (op : StepOp) (n : Nat) : AluOp :=
  match op with
  | .inc => aluIncRadix n
  | .dec => aluDecRadix n

/-- `op [%ir],n4`. -/
def StepOp.mem (op : StepOp) (k : Idx) (n : Nat) : Instr :=
  match op, k with
  | .inc, .x => .incMemXN4 n
  | .inc, .y => .incMemYN4 n
  | .dec, .x => .decMemXN4 n
  | .dec, .y => .decMemYN4 n

/-- `op [%ir]+,n4`. -/
def StepOp.memInc (op : StepOp) (k : Idx) (n : Nat) : Instr :=
  match op, k with
  | .inc, .x => .incMemXIncN4 n
  | .inc, .y => .incMemYIncN4 n
  | .dec, .x => .decMemXIncN4 n
  | .dec, .y => .decMemYIncN4 n

/-! ### 6-bit absolute addresses (R48) -/

/-- `op [addr6]`. -/
def StepOp.absolute (op : StepOp) (a : BitVec 6) : Instr :=
  match op with
  | .inc => .incMemAddr6 a
  | .dec => .decMemAddr6 a

/-- Where a 6-bit absolute address starts: 0000H or FFC0H. -/
inductive Page where
  | low
  | high
deriving DecidableEq, Repr

/-- The data address of `addr6` in a page (R48). -/
def Page.address (p : Page) (a : BitVec 6) : Addr :=
  match p with
  | .low => 0x0000#16 + a.setWidth 16
  | .high => 0xFFC0#16 + a.setWidth 16

/-- `CLR [addr6],imm2`. -/
def Page.clr (p : Page) (a : BitVec 6) (b : BitVec 2) : Instr :=
  match p with
  | .low => .clrMem00Addr6Imm2 a b
  | .high => .clrMemFFAddr6Imm2 a b

/-- `SET [addr6],imm2`. -/
def Page.set (p : Page) (a : BitVec 6) (b : BitVec 2) : Instr :=
  match p with
  | .low => .setMem00Addr6Imm2 a b
  | .high => .setMemFFAddr6Imm2 a b

/-- `TST [addr6],imm2`. -/
def Page.tst (p : Page) (a : BitVec 6) (b : BitVec 2) : Instr :=
  match p with
  | .low => .tstMem00Addr6Imm2 a b
  | .high => .tstMemFFAddr6Imm2 a b

/-! ### 4-bit transfer (spec/40_transfer_4bit.md) -/

/-- `LD %r,%r'`. -/
def ldRegReg (r : Reg) (q : Reg) : Instr :=
  match r, q with
  | .a, .a => .ldAA
  | .a, .b => .ldAB
  | .b, .a => .ldBA
  | .b, .b => .ldBB

/-- `LD %r,imm4`. -/
def ldRegImm (r : Reg) (i : Nibble) : Instr :=
  match r with
  | .a => .ldAImm4 i
  | .b => .ldBImm4 i

/-- `LD %r,[%ir]`. -/
def ldRegMem (r : Reg) (k : Idx) : Instr :=
  match r, k with
  | .a, .x => .ldAMemX
  | .a, .y => .ldAMemY
  | .b, .x => .ldBMemX
  | .b, .y => .ldBMemY

/-- `LD [%ir],%r`. -/
def ldMemReg (k : Idx) (r : Reg) : Instr :=
  match k, r with
  | .x, .a => .ldMemXA
  | .x, .b => .ldMemXB
  | .y, .a => .ldMemYA
  | .y, .b => .ldMemYB

/-- `LD [%ir],imm4`. -/
def ldMemImm (k : Idx) (i : Nibble) : Instr :=
  match k with
  | .x => .ldMemXImm4 i
  | .y => .ldMemYImm4 i

/-- `EX %r,[%ir]`. -/
def exRegMem (r : Reg) (k : Idx) : Instr :=
  match r, k with
  | .a, .x => .exAMemX
  | .a, .y => .exAMemY
  | .b, .x => .exBMemX
  | .b, .y => .exBMemY

/-- `LD %r,[%ir]+`. -/
def ldRegMemInc (r : Reg) (k : Idx) : Instr :=
  match r, k with
  | .a, .x => .ldAMemXInc
  | .a, .y => .ldAMemYInc
  | .b, .x => .ldBMemXInc
  | .b, .y => .ldBMemYInc

/-- `LD [%ir]+,%r`. -/
def ldMemIncReg (k : Idx) (r : Reg) : Instr :=
  match k, r with
  | .x, .a => .ldMemXIncA
  | .x, .b => .ldMemXIncB
  | .y, .a => .ldMemYIncA
  | .y, .b => .ldMemYIncB

/-- `LD [%ir]+,imm4`. -/
def ldMemIncImm (k : Idx) (i : Nibble) : Instr :=
  match k with
  | .x => .ldMemXIncImm4 i
  | .y => .ldMemYIncImm4 i

/-- `EX %r,[%ir]+`. -/
def exRegMemInc (r : Reg) (k : Idx) : Instr :=
  match r, k with
  | .a, .x => .exAMemXInc
  | .a, .y => .exAMemYInc
  | .b, .x => .exBMemXInc
  | .b, .y => .exBMemYInc

/-- The index register that is not `k`: the source of the two-memory-operand forms (R112). -/
def otherIdx (k : Idx) : Idx :=
  match k with
  | .x => .y
  | .y => .x

/-- `LD [%ir](+),[%ir'](+)`: destination `k`, its increment, then the source's (R112 to R115). -/
def ldMemMem (k : Idx) (dstInc srcInc : Bool) : Instr :=
  match k, dstInc, srcInc with
  | .x, false, false => .ldMemXMemY
  | .x, false, true => .ldMemXMemYInc
  | .x, true, false => .ldMemXIncMemY
  | .x, true, true => .ldMemXIncMemYInc
  | .y, false, false => .ldMemYMemX
  | .y, false, true => .ldMemYMemXInc
  | .y, true, false => .ldMemYIncMemX
  | .y, true, true => .ldMemYIncMemXInc

/-! ### 8-bit and 16-bit transfer and arithmetic (spec/45_transfer_8_16bit.md) -/

/-- The 8-bit registers other than BA. -/
inductive ByteReg where
  | ext
  | xl
  | xh
  | yl
  | yh
  | sp1
  | sp2
deriving DecidableEq, Repr

/-- The 8 bits of each (R12, R25, R28, R29). -/
def ByteReg.read (r : ByteReg) (s : State) : Byte :=
  match r with
  | .ext => s.ext
  | .xl => s.x.setWidth 8
  | .xh => (s.x >>> 8).setWidth 8
  | .yl => s.y.setWidth 8
  | .yh => (s.y >>> 8).setWidth 8
  | .sp1 => s.sp1
  | .sp2 => s.sp2

/-- `LDB %BA,` with EXT, a byte of X or Y, or a stack pointer. -/
def ldbBAByte (r : ByteReg) : Instr :=
  match r with
  | .ext => .ldbBAEXT
  | .xl => .ldbBAXL
  | .xh => .ldbBAXH
  | .yl => .ldbBAYL
  | .yh => .ldbBAYH
  | .sp1 => .ldbBASP1
  | .sp2 => .ldbBASP2

/-- `LDB %BA,[%ir]+`. -/
def ldbBAMemInc (k : Idx) : Instr :=
  match k with
  | .x => .ldbBAMemXInc
  | .y => .ldbBAMemYInc

/-- `LDB [%ir]+,%BA`. -/
def ldbMemIncBA (k : Idx) : Instr :=
  match k with
  | .x => .ldbMemXIncBA
  | .y => .ldbMemYIncBA

/-- `LDB %XL,imm8`, `LDB %YL,imm8`. -/
def ldbLowImm (k : Idx) (i : Byte) : Instr :=
  match k with
  | .x => .ldbXLImm8 i
  | .y => .ldbYLImm8 i

/-- `LDB %XL,%BA`, `LDB %YL,%BA`. -/
def ldbLowBA (k : Idx) : Instr :=
  match k with
  | .x => .ldbXLBA
  | .y => .ldbYLBA

/-- `LDB %XH,%BA`, `LDB %YH,%BA`. -/
def ldbHighBA (k : Idx) : Instr :=
  match k with
  | .x => .ldbXHBA
  | .y => .ldbYHBA

/-- `ADD %ir,%BA`. -/
def addIdxBA (k : Idx) : Instr :=
  match k with
  | .x => .addXBA
  | .y => .addYBA

/-- `ADD %ir,sign8`. -/
def addIdxSign8 (k : Idx) (d : Byte) : Instr :=
  match k with
  | .x => .addXSign8 d
  | .y => .addYSign8 d

/-- `CMP %ir,imm8`. -/
def cmpIdxImm8 (k : Idx) (i : Byte) : Instr :=
  match k with
  | .x => .cmpXImm8 i
  | .y => .cmpYImm8 i

/-! ### Stack operation (spec/46_stack.md) -/

/-- `PUSH %r`. -/
def pushReg (r : Reg) : Instr :=
  match r with
  | .a => .pushA
  | .b => .pushB

/-- `POP %r`. -/
def popReg4 (r : Reg) : Instr :=
  match r with
  | .a => .popA
  | .b => .popB

/-- `PUSH %ir`. -/
def pushIdx16 (k : Idx) : Instr :=
  match k with
  | .x => .pushX
  | .y => .pushY

/-- `POP %ir`. -/
def popIdx16 (k : Idx) : Instr :=
  match k with
  | .x => .popX
  | .y => .popY

/-! ### Branches (spec/47_branch.md) -/

/-- The conditions of the relative jumps. -/
inductive JumpCond where
  | always
  | carry
  | noCarry
  | zero
  | notZero
deriving DecidableEq, Repr

/-- When the jump is taken (R382, R386 to R389). -/
def JumpCond.holds (c : JumpCond) (f : Nibble) : Bool :=
  match c with
  | .always => true
  | .carry => flagC f
  | .noCarry => !flagC f
  | .zero => flagZ f
  | .notZero => !flagZ f

/-- `JR`, `JRC`, `JRNC`, `JRZ`, `JRNZ` with `sign8`. -/
def JumpCond.instr (c : JumpCond) (d : Byte) : Instr :=
  match c with
  | .always => .jrSign8 d
  | .carry => .jrcSign8 d
  | .noCarry => .jrncSign8 d
  | .zero => .jrzSign8 d
  | .notZero => .jrnzSign8 d

/-! ### What the tables say of every instruction -/

/-- The 140 forms that may start with E = 1: "Extended addressing: Valid" (R87). -/
def extValid (i : Instr) : Bool :=
  match i with
  | .adcAMemX | .adcAMemY | .adcBMemX | .adcBMemY | .adcMemXA | .adcMemXB | .adcMemYA | .adcMemYB | .adcMemXImm4 _
    | .adcMemYImm4 _ | .adcBMemXN4 _ | .adcBMemYN4 _ | .adcMemXBN4 _ | .adcMemYBN4 _ | .adcMemXZeroN4 _
    | .adcMemYZeroN4 _ | .addAMemX | .addAMemY | .addBMemX | .addBMemY | .addMemXA | .addMemXB | .addMemYA | .addMemYB
    | .addMemXImm4 _ | .addMemYImm4 _ | .addXSign8 _ | .addYSign8 _ | .andAMemX | .andAMemY | .andBMemX | .andBMemY
    | .andMemXA | .andMemXB | .andMemYA | .andMemYB | .andMemXImm4 _ | .andMemYImm4 _ | .bitAMemX | .bitAMemY
    | .bitBMemX | .bitBMemY | .bitMemXA | .bitMemXB | .bitMemYA | .bitMemYB | .bitMemXImm4 _ | .bitMemYImm4 _
    | .calrSign8 _ | .cmpAMemX | .cmpAMemY | .cmpBMemX | .cmpBMemY | .cmpMemXA | .cmpMemXB | .cmpMemYA | .cmpMemYB
    | .cmpMemXImm4 _ | .cmpMemYImm4 _ | .cmpXImm8 _ | .cmpYImm8 _ | .decMemXN4 _ | .decMemYN4 _ | .exAMemX | .exAMemY
    | .exBMemX | .exBMemY | .incMemXN4 _ | .incMemYN4 _ | .jrSign8 _ | .jrcSign8 _ | .jrncSign8 _ | .jrnzSign8 _
    | .jrzSign8 _ | .ldAMemX | .ldAMemY | .ldBMemX | .ldBMemY | .ldMemXA | .ldMemXB | .ldMemYA | .ldMemYB
    | .ldMemXImm4 _ | .ldMemYImm4 _ | .ldbXLImm8 _ | .ldbYLImm8 _ | .orAMemX | .orAMemY | .orBMemX | .orBMemY
    | .orMemXA | .orMemXB | .orMemYA | .orMemYB | .orMemXImm4 _ | .orMemYImm4 _ | .rlMemX | .rlMemY | .rrMemX
    | .rrMemY | .sbcAMemX | .sbcAMemY | .sbcBMemX | .sbcBMemY | .sbcMemXA | .sbcMemXB | .sbcMemYA | .sbcMemYB
    | .sbcMemXImm4 _ | .sbcMemYImm4 _ | .sbcBMemXN4 _ | .sbcBMemYN4 _ | .sbcMemXBN4 _ | .sbcMemYBN4 _
    | .sbcMemXZeroN4 _ | .sbcMemYZeroN4 _ | .sllMemX | .sllMemY | .srlMemX | .srlMemY | .subAMemX | .subAMemY
    | .subBMemX | .subBMemY | .subMemXA | .subMemXB | .subMemYA | .subMemYB | .subMemXImm4 _ | .subMemYImm4 _
    | .xorAMemX | .xorAMemY | .xorBMemX | .xorBMemY | .xorMemXA | .xorMemXB | .xorMemYA | .xorMemYB | .xorMemXImm4 _
    | .xorMemYImm4 _ => true
  | _ => false

/-- The "Cycle" column (R365). -/
def busCycles (i : Instr) : Nat :=
  match i with
  | .adcMemXA | .adcMemXB | .adcMemYA | .adcMemYB | .adcMemXIncA | .adcMemXIncB | .adcMemYIncA | .adcMemYIncB
    | .adcMemXImm4 _ | .adcMemYImm4 _ | .adcMemXIncImm4 _ | .adcMemYIncImm4 _ | .adcBAN4 _ | .adcBMemXN4 _
    | .adcBMemYN4 _ | .adcMemXBN4 _ | .adcMemYBN4 _ | .adcBMemXIncN4 _ | .adcBMemYIncN4 _ | .adcMemXIncBN4 _
    | .adcMemYIncBN4 _ | .adcMemXZeroN4 _ | .adcMemYZeroN4 _ | .adcMemXIncZeroN4 _ | .adcMemYIncZeroN4 _ | .addMemXA
    | .addMemXB | .addMemYA | .addMemYB | .addMemXIncA | .addMemXIncB | .addMemYIncA | .addMemYIncB | .addMemXImm4 _
    | .addMemYImm4 _ | .addMemXIncImm4 _ | .addMemYIncImm4 _ | .andMemXA | .andMemXB | .andMemYA | .andMemYB
    | .andMemXIncA | .andMemXIncB | .andMemYIncA | .andMemYIncB | .andMemXImm4 _ | .andMemYImm4 _ | .andMemXIncImm4 _
    | .andMemYIncImm4 _ | .calrMemAddr6 _ | .clrMem00Addr6Imm2 _ _ | .clrMemFFAddr6Imm2 _ _ | .decMemAddr6 _
    | .decMemXN4 _ | .decMemYN4 _ | .decMemXIncN4 _ | .decMemYIncN4 _ | .exAMemX | .exAMemY | .exBMemX | .exBMemY
    | .exAMemXInc | .exAMemYInc | .exBMemXInc | .exBMemYInc | .halt | .incMemAddr6 _ | .incMemXN4 _ | .incMemYN4 _
    | .incMemXIncN4 _ | .incMemYIncN4 _ | .jrMemAddr6 _ | .ldMemXMemY | .ldMemYMemX | .ldMemXMemYInc | .ldMemYMemXInc
    | .ldMemXIncMemY | .ldMemYIncMemX | .ldMemXIncMemYInc | .ldMemYIncMemXInc | .ldbBAMemXInc | .ldbBAMemYInc
    | .ldbMemXIncBA | .ldbMemYIncBA | .ldbMemXIncImm8 _ | .orMemXA | .orMemXB | .orMemYA | .orMemYB | .orMemXIncA
    | .orMemXIncB | .orMemYIncA | .orMemYIncB | .orMemXImm4 _ | .orMemYImm4 _ | .orMemXIncImm4 _ | .orMemYIncImm4 _
    | .reti | .rets | .rlMemX | .rlMemY | .rlMemXInc | .rlMemYInc | .rrMemX | .rrMemY | .rrMemXInc | .rrMemYInc
    | .sbcMemXA | .sbcMemXB | .sbcMemYA | .sbcMemYB | .sbcMemXIncA | .sbcMemXIncB | .sbcMemYIncA | .sbcMemYIncB
    | .sbcMemXImm4 _ | .sbcMemYImm4 _ | .sbcMemXIncImm4 _ | .sbcMemYIncImm4 _ | .sbcBAN4 _ | .sbcBMemXN4 _
    | .sbcBMemYN4 _ | .sbcBMemXIncN4 _ | .sbcBMemYIncN4 _ | .sbcMemXBN4 _ | .sbcMemYBN4 _ | .sbcMemXIncBN4 _
    | .sbcMemYIncBN4 _ | .sbcMemXZeroN4 _ | .sbcMemYZeroN4 _ | .sbcMemXIncZeroN4 _ | .sbcMemYIncZeroN4 _
    | .setMem00Addr6Imm2 _ _ | .setMemFFAddr6Imm2 _ _ | .sllMemXInc | .sllMemYInc | .sllMemX | .sllMemY | .slp
    | .srlMemX | .srlMemY | .srlMemXInc | .srlMemYInc | .subMemXIncA | .subMemXIncB | .subMemYIncA | .subMemYIncB
    | .subMemXA | .subMemXB | .subMemYA | .subMemYB | .subMemXImm4 _ | .subMemYImm4 _ | .subMemXIncImm4 _
    | .subMemYIncImm4 _ | .xorMemXA | .xorMemXB | .xorMemYA | .xorMemYB | .xorMemXIncA | .xorMemXIncB | .xorMemYIncA
    | .xorMemYIncB | .xorMemXImm4 _ | .xorMemYImm4 _ | .xorMemXIncImm4 _ | .xorMemYIncImm4 _ => 2
  | .intImm6 _ | .retdImm8 _ => 3
  | _ => 1

/-- The seven instructions that write F whole (R19, R24). -/
def replacesF (i : Instr) : Bool :=
  match i with
  | .andFImm4 _ | .ldFA | .ldFImm4 _ | .orFImm4 _ | .popF | .reti | .xorFImm4 _ => true
  | _ => false

/-- The two instructions that set E (R23). -/
def setsE (i : Instr) : Bool :=
  match i with
  | .ldbEXTImm8 _ | .ldbEXTBA => true
  | _ => false

/-- The two instructions that count as setting a stack pointer (R32). -/
def setsPointer (i : Instr) : Option StackPtr :=
  match i with
  | .ldbSP1BA => some .sp1
  | .ldbSP2BA => some .sp2
  | _ => none

/-- The eleven instructions after which interrupts wait (R33, R313). -/
def defers (i : Instr) : Bool := replacesF i || setsE i || (setsPointer i).isSome

/-- The jumps, calls, returns and `INT`: the instructions that may go on elsewhere than at the next address (R17). -/
def transfersControl (i : Instr) : Bool :=
  match i with
  | .calrMemAddr6 _ | .calrSign8 _ | .calzImm8 _ | .intImm6 _ | .jpY | .jrA | .jrBA | .jrMemAddr6 _ | .jrSign8 _
    | .jrcSign8 _ | .jrncSign8 _ | .jrnzSign8 _ | .jrzSign8 _ | .ret | .retdImm8 _ | .reti | .rets => true
  | _ => false

/-- The instructions that write C (R21), those that replace F among them. -/
def writesC (i : Instr) : Bool :=
  match i with
  | .adcAA | .adcAB | .adcBA | .adcBB | .adcAImm4 _ | .adcBImm4 _ | .adcAMemX | .adcAMemY | .adcBMemX | .adcBMemY
    | .adcAMemXInc | .adcAMemYInc | .adcBMemXInc | .adcBMemYInc | .adcMemXA | .adcMemXB | .adcMemYA | .adcMemYB
    | .adcMemXIncA | .adcMemXIncB | .adcMemYIncA | .adcMemYIncB | .adcMemXImm4 _ | .adcMemYImm4 _ | .adcMemXIncImm4 _
    | .adcMemYIncImm4 _ | .adcBAN4 _ | .adcBMemXN4 _ | .adcBMemYN4 _ | .adcMemXBN4 _ | .adcMemYBN4 _
    | .adcBMemXIncN4 _ | .adcBMemYIncN4 _ | .adcMemXIncBN4 _ | .adcMemYIncBN4 _ | .adcMemXZeroN4 _ | .adcMemYZeroN4 _
    | .addAA | .addAB | .addBA | .addBB | .adcMemXIncZeroN4 _ | .adcMemYIncZeroN4 _ | .addAImm4 _ | .addBImm4 _
    | .addAMemX | .addAMemY | .addBMemX | .addBMemY | .addAMemXInc | .addAMemYInc | .addBMemXInc | .addBMemYInc
    | .addMemXA | .addMemXB | .addMemYA | .addMemYB | .addMemXIncA | .addMemXIncB | .addMemYIncA | .addMemYIncB
    | .addMemXImm4 _ | .addMemYImm4 _ | .addMemXIncImm4 _ | .addMemYIncImm4 _ | .andFImm4 _ | .cmpAImm4 _
    | .cmpBImm4 _ | .cmpAA | .cmpAB | .cmpBA | .cmpBB | .cmpAMemX | .cmpAMemY | .cmpBMemX | .cmpBMemY | .cmpAMemXInc
    | .cmpAMemYInc | .cmpBMemXInc | .cmpBMemYInc | .cmpMemXIncA | .cmpMemXIncB | .cmpMemYIncA | .cmpMemYIncB
    | .cmpMemXA | .cmpMemXB | .cmpMemYA | .cmpMemYB | .cmpMemXIncImm4 _ | .cmpMemYIncImm4 _ | .cmpMemXImm4 _
    | .cmpMemYImm4 _ | .cmpXImm8 _ | .cmpYImm8 _ | .decMemAddr6 _ | .decMemXN4 _ | .decMemYN4 _ | .decMemXIncN4 _
    | .decMemYIncN4 _ | .incMemAddr6 _ | .incMemXN4 _ | .incMemYN4 _ | .incMemXIncN4 _ | .incMemYIncN4 _ | .ldFA
    | .ldFImm4 _ | .orFImm4 _ | .popF | .reti | .rlA | .rlB | .rlMemX | .rlMemY | .rlMemXInc | .rlMemYInc | .rrA
    | .rrB | .rrMemX | .rrMemY | .rrMemXInc | .rrMemYInc | .sbcAA | .sbcAB | .sbcBA | .sbcBB | .sbcAImm4 _
    | .sbcBImm4 _ | .sbcAMemX | .sbcAMemY | .sbcBMemX | .sbcBMemY | .sbcAMemXInc | .sbcAMemYInc | .sbcBMemXInc
    | .sbcBMemYInc | .sbcMemXA | .sbcMemXB | .sbcMemYA | .sbcMemYB | .sbcMemXIncA | .sbcMemXIncB | .sbcMemYIncA
    | .sbcMemYIncB | .sbcMemXImm4 _ | .sbcMemYImm4 _ | .sbcMemXIncImm4 _ | .sbcMemYIncImm4 _ | .sbcBAN4 _
    | .sbcBMemXN4 _ | .sbcBMemYN4 _ | .sbcBMemXIncN4 _ | .sbcBMemYIncN4 _ | .sbcMemXBN4 _ | .sbcMemYBN4 _
    | .sbcMemXIncBN4 _ | .sbcMemYIncBN4 _ | .sbcMemXZeroN4 _ | .sbcMemYZeroN4 _ | .sbcMemXIncZeroN4 _
    | .sbcMemYIncZeroN4 _ | .sllA | .sllB | .sllMemXInc | .sllMemYInc | .sllMemX | .sllMemY | .srlA | .srlB | .srlMemX
    | .srlMemY | .srlMemXInc | .srlMemYInc | .subAA | .subAB | .subBA | .subBB | .subAImm4 _ | .subBImm4 _
    | .subAMemXInc | .subAMemYInc | .subBMemXInc | .subBMemYInc | .subAMemX | .subAMemY | .subBMemX | .subBMemY
    | .subMemXIncA | .subMemXIncB | .subMemYIncA | .subMemYIncB | .subMemXA | .subMemXB | .subMemYA | .subMemYB
    | .subMemXImm4 _ | .subMemYImm4 _ | .subMemXIncImm4 _ | .subMemYIncImm4 _ | .xorFImm4 _ => true
  | _ => false

/-- The instructions that write Z (R20), those that replace F among them. -/
def writesZ (i : Instr) : Bool :=
  match i with
  | .adcAA | .adcAB | .adcBA | .adcBB | .adcAImm4 _ | .adcBImm4 _ | .adcAMemX | .adcAMemY | .adcBMemX | .adcBMemY
    | .adcAMemXInc | .adcAMemYInc | .adcBMemXInc | .adcBMemYInc | .adcMemXA | .adcMemXB | .adcMemYA | .adcMemYB
    | .adcMemXIncA | .adcMemXIncB | .adcMemYIncA | .adcMemYIncB | .adcMemXImm4 _ | .adcMemYImm4 _ | .adcMemXIncImm4 _
    | .adcMemYIncImm4 _ | .adcBAN4 _ | .adcBMemXN4 _ | .adcBMemYN4 _ | .adcMemXBN4 _ | .adcMemYBN4 _
    | .adcBMemXIncN4 _ | .adcBMemYIncN4 _ | .adcMemXIncBN4 _ | .adcMemYIncBN4 _ | .adcMemXZeroN4 _ | .adcMemYZeroN4 _
    | .addAA | .addAB | .addBA | .addBB | .adcMemXIncZeroN4 _ | .adcMemYIncZeroN4 _ | .addAImm4 _ | .addBImm4 _
    | .addAMemX | .addAMemY | .addBMemX | .addBMemY | .addAMemXInc | .addAMemYInc | .addBMemXInc | .addBMemYInc
    | .addMemXA | .addMemXB | .addMemYA | .addMemYB | .addMemXIncA | .addMemXIncB | .addMemYIncA | .addMemYIncB
    | .addMemXImm4 _ | .addMemYImm4 _ | .addMemXIncImm4 _ | .addMemYIncImm4 _ | .addXBA | .addYBA | .addXSign8 _
    | .addYSign8 _ | .andAA | .andAB | .andBA | .andBB | .andAImm4 _ | .andBImm4 _ | .andFImm4 _ | .andAMemXInc
    | .andAMemYInc | .andBMemXInc | .andBMemYInc | .andAMemX | .andAMemY | .andBMemX | .andBMemY | .andMemXA
    | .andMemXB | .andMemYA | .andMemYB | .andMemXIncA | .andMemXIncB | .andMemYIncA | .andMemYIncB | .andMemXImm4 _
    | .andMemYImm4 _ | .andMemXIncImm4 _ | .andMemYIncImm4 _ | .bitAA | .bitAB | .bitBA | .bitBB | .bitAImm4 _
    | .bitBImm4 _ | .bitAMemXInc | .bitAMemYInc | .bitBMemXInc | .bitBMemYInc | .bitAMemX | .bitAMemY | .bitBMemX
    | .bitBMemY | .bitMemXA | .bitMemXB | .bitMemYA | .bitMemYB | .bitMemXIncA | .bitMemXIncB | .bitMemYIncA
    | .bitMemYIncB | .bitMemXIncImm4 _ | .bitMemYIncImm4 _ | .bitMemXImm4 _ | .bitMemYImm4 _ | .clrMem00Addr6Imm2 _ _
    | .clrMemFFAddr6Imm2 _ _ | .cmpAImm4 _ | .cmpBImm4 _ | .cmpAA | .cmpAB | .cmpBA | .cmpBB | .cmpAMemX | .cmpAMemY
    | .cmpBMemX | .cmpBMemY | .cmpAMemXInc | .cmpAMemYInc | .cmpBMemXInc | .cmpBMemYInc | .cmpMemXIncA | .cmpMemXIncB
    | .cmpMemYIncA | .cmpMemYIncB | .cmpMemXA | .cmpMemXB | .cmpMemYA | .cmpMemYB | .cmpMemXIncImm4 _
    | .cmpMemYIncImm4 _ | .cmpMemXImm4 _ | .cmpMemYImm4 _ | .cmpXImm8 _ | .cmpYImm8 _ | .decMemAddr6 _ | .decMemXN4 _
    | .decMemYN4 _ | .decMemXIncN4 _ | .decMemYIncN4 _ | .decSP1 | .decSP2 | .incMemAddr6 _ | .incMemXN4 _
    | .incMemYN4 _ | .incMemXIncN4 _ | .incMemYIncN4 _ | .incSP1 | .incSP2 | .ldFA | .ldFImm4 _ | .orAA | .orAB
    | .orBA | .orBB | .orAImm4 _ | .orBImm4 _ | .orFImm4 _ | .orAMemX | .orAMemY | .orBMemX | .orBMemY | .orAMemXInc
    | .orAMemYInc | .orBMemXInc | .orBMemYInc | .orMemXA | .orMemXB | .orMemYA | .orMemYB | .orMemXIncA | .orMemXIncB
    | .orMemYIncA | .orMemYIncB | .orMemXImm4 _ | .orMemYImm4 _ | .orMemXIncImm4 _ | .orMemYIncImm4 _ | .popF | .reti
    | .rlA | .rlB | .rlMemX | .rlMemY | .rlMemXInc | .rlMemYInc | .rrA | .rrB | .rrMemX | .rrMemY | .rrMemXInc
    | .rrMemYInc | .sbcAA | .sbcAB | .sbcBA | .sbcBB | .sbcAImm4 _ | .sbcBImm4 _ | .sbcAMemX | .sbcAMemY | .sbcBMemX
    | .sbcBMemY | .sbcAMemXInc | .sbcAMemYInc | .sbcBMemXInc | .sbcBMemYInc | .sbcMemXA | .sbcMemXB | .sbcMemYA
    | .sbcMemYB | .sbcMemXIncA | .sbcMemXIncB | .sbcMemYIncA | .sbcMemYIncB | .sbcMemXImm4 _ | .sbcMemYImm4 _
    | .sbcMemXIncImm4 _ | .sbcMemYIncImm4 _ | .sbcBAN4 _ | .sbcBMemXN4 _ | .sbcBMemYN4 _ | .sbcBMemXIncN4 _
    | .sbcBMemYIncN4 _ | .sbcMemXBN4 _ | .sbcMemYBN4 _ | .sbcMemXIncBN4 _ | .sbcMemYIncBN4 _ | .sbcMemXZeroN4 _
    | .sbcMemYZeroN4 _ | .sbcMemXIncZeroN4 _ | .sbcMemYIncZeroN4 _ | .setMem00Addr6Imm2 _ _ | .setMemFFAddr6Imm2 _ _
    | .sllA | .sllB | .sllMemXInc | .sllMemYInc | .sllMemX | .sllMemY | .srlA | .srlB | .srlMemX | .srlMemY
    | .srlMemXInc | .srlMemYInc | .subAA | .subAB | .subBA | .subBB | .subAImm4 _ | .subBImm4 _ | .subAMemXInc
    | .subAMemYInc | .subBMemXInc | .subBMemYInc | .subAMemX | .subAMemY | .subBMemX | .subBMemY | .subMemXIncA
    | .subMemXIncB | .subMemYIncA | .subMemYIncB | .subMemXA | .subMemXB | .subMemYA | .subMemYB | .subMemXImm4 _
    | .subMemYImm4 _ | .subMemXIncImm4 _ | .subMemYIncImm4 _ | .xorAA | .xorAB | .xorBA | .xorBB
    | .tstMem00Addr6Imm2 _ _ | .tstMemFFAddr6Imm2 _ _ | .xorAImm4 _ | .xorBImm4 _ | .xorFImm4 _ | .xorAMemX
    | .xorAMemY | .xorBMemX | .xorBMemY | .xorAMemXInc | .xorAMemYInc | .xorBMemXInc | .xorBMemYInc | .xorMemXA
    | .xorMemXB | .xorMemYA | .xorMemYB | .xorMemXIncA | .xorMemXIncB | .xorMemYIncA | .xorMemYIncB | .xorMemXImm4 _
    | .xorMemYImm4 _ | .xorMemXIncImm4 _ | .xorMemYIncImm4 _ => true
  | _ => false

/-- The registers a frame speaks of; PC and F have statements of their own. -/
inductive RegName where
  | a
  | b
  | x
  | y
  | ext
  | sp1
  | sp2
  | q
deriving DecidableEq, Repr

/-- The register has the same contents in both states. -/
def RegName.same (r : RegName) (s t : State) : Prop :=
  match r with
  | .a => t.a = s.a
  | .b => t.b = s.b
  | .x => t.x = s.x
  | .y => t.y = s.y
  | .ext => t.ext = s.ext
  | .sp1 => t.sp1 = s.sp1
  | .sp2 => t.sp2 = s.sp2
  | .q => t.q = s.q

/-- The registers an instruction may write: its destination, an index register it increments, the stack pointer and the queue
register it moves. -/
def writtenRegs (i : Instr) : List RegName :=
  match i with
  | .adcAA | .adcAB | .adcAImm4 _ | .adcAMemX | .adcAMemY | .addAA | .addAB | .addAImm4 _ | .addAMemX | .addAMemY
    | .andAA | .andAB | .andAImm4 _ | .andAMemX | .andAMemY | .exAMemX | .exAMemY | .ldAA | .ldAB | .ldAF | .ldAImm4 _
    | .ldAMemX | .ldAMemY | .orAA | .orAB | .orAImm4 _ | .orAMemX | .orAMemY | .rlA | .rrA | .sbcAA | .sbcAB
    | .sbcAImm4 _ | .sbcAMemX | .sbcAMemY | .sllA | .srlA | .subAA | .subAB | .subAImm4 _ | .subAMemX | .subAMemY
    | .xorAA | .xorAB | .xorAImm4 _ | .xorAMemX | .xorAMemY => [.a]
  | .adcBA | .adcBB | .adcBImm4 _ | .adcBMemX | .adcBMemY | .adcBAN4 _ | .adcBMemXN4 _ | .adcBMemYN4 _ | .addBA
    | .addBB | .addBImm4 _ | .addBMemX | .addBMemY | .andBA | .andBB | .andBImm4 _ | .andBMemX | .andBMemY | .exBMemX
    | .exBMemY | .ldBA | .ldBB | .ldBImm4 _ | .ldBMemX | .ldBMemY | .orBA | .orBB | .orBImm4 _ | .orBMemX | .orBMemY
    | .rlB | .rrB | .sbcBA | .sbcBB | .sbcBImm4 _ | .sbcBMemX | .sbcBMemY | .sbcBAN4 _ | .sbcBMemXN4 _ | .sbcBMemYN4 _
    | .sllB | .srlB | .subBA | .subBB | .subBImm4 _ | .subBMemX | .subBMemY | .xorBA | .xorBB | .xorBImm4 _
    | .xorBMemX | .xorBMemY => [.b]
  | .adcAMemXInc | .addAMemXInc | .andAMemXInc | .exAMemXInc | .ldAMemXInc | .orAMemXInc | .sbcAMemXInc | .subAMemXInc
    | .xorAMemXInc => [.a, .x]
  | .adcAMemYInc | .addAMemYInc | .andAMemYInc | .exAMemYInc | .ldAMemYInc | .orAMemYInc | .sbcAMemYInc | .subAMemYInc
    | .xorAMemYInc => [.a, .y]
  | .adcBMemXInc | .adcBMemXIncN4 _ | .addBMemXInc | .andBMemXInc | .exBMemXInc | .ldBMemXInc | .orBMemXInc
    | .sbcBMemXInc | .sbcBMemXIncN4 _ | .subBMemXInc | .xorBMemXInc => [.b, .x]
  | .adcBMemYInc | .adcBMemYIncN4 _ | .addBMemYInc | .andBMemYInc | .exBMemYInc | .ldBMemYInc | .orBMemYInc
    | .sbcBMemYInc | .sbcBMemYIncN4 _ | .subBMemYInc | .xorBMemYInc => [.b, .y]
  | .adcMemXIncA | .adcMemXIncB | .adcMemXIncImm4 _ | .adcMemXIncBN4 _ | .adcMemXIncZeroN4 _ | .addMemXIncA
    | .addMemXIncB | .addMemXIncImm4 _ | .addXBA | .addXSign8 _ | .andMemXIncA | .andMemXIncB | .andMemXIncImm4 _
    | .bitAMemXInc | .bitBMemXInc | .bitMemXIncA | .bitMemXIncB | .bitMemXIncImm4 _ | .cmpAMemXInc | .cmpBMemXInc
    | .cmpMemXIncA | .cmpMemXIncB | .cmpMemXIncImm4 _ | .decMemXIncN4 _ | .incMemXIncN4 _ | .ldMemXIncA | .ldMemXIncB
    | .ldMemXIncImm4 _ | .ldMemYMemXInc | .ldMemXIncMemY | .ldbMemXIncBA | .ldbMemXIncImm8 _ | .ldbXLImm8 _ | .ldbXLBA
    | .ldbXHBA | .orMemXIncA | .orMemXIncB | .orMemXIncImm4 _ | .rlMemXInc | .rrMemXInc | .sbcMemXIncA | .sbcMemXIncB
    | .sbcMemXIncImm4 _ | .sbcMemXIncBN4 _ | .sbcMemXIncZeroN4 _ | .sllMemXInc | .srlMemXInc | .subMemXIncA
    | .subMemXIncB | .subMemXIncImm4 _ | .xorMemXIncA | .xorMemXIncB | .xorMemXIncImm4 _ => [.x]
  | .adcMemYIncA | .adcMemYIncB | .adcMemYIncImm4 _ | .adcMemYIncBN4 _ | .adcMemYIncZeroN4 _ | .addMemYIncA
    | .addMemYIncB | .addMemYIncImm4 _ | .addYBA | .addYSign8 _ | .andMemYIncA | .andMemYIncB | .andMemYIncImm4 _
    | .bitAMemYInc | .bitBMemYInc | .bitMemYIncA | .bitMemYIncB | .bitMemYIncImm4 _ | .cmpAMemYInc | .cmpBMemYInc
    | .cmpMemYIncA | .cmpMemYIncB | .cmpMemYIncImm4 _ | .decMemYIncN4 _ | .incMemYIncN4 _ | .ldMemYIncA | .ldMemYIncB
    | .ldMemYIncImm4 _ | .ldMemXMemYInc | .ldMemYIncMemX | .ldbMemYIncBA | .ldbYLImm8 _ | .ldbYLBA | .ldbYHBA
    | .orMemYIncA | .orMemYIncB | .orMemYIncImm4 _ | .rlMemYInc | .rrMemYInc | .sbcMemYIncA | .sbcMemYIncB
    | .sbcMemYIncImm4 _ | .sbcMemYIncBN4 _ | .sbcMemYIncZeroN4 _ | .sllMemYInc | .srlMemYInc | .subMemYIncA
    | .subMemYIncB | .subMemYIncImm4 _ | .xorMemYIncA | .xorMemYIncB | .xorMemYIncImm4 _ => [.y]
  | .calrMemAddr6 _ | .calrSign8 _ | .calzImm8 _ | .decSP1 | .incSP1 | .ldbSP1BA | .pushX | .pushY | .ret | .rets => [.sp1, .q]
  | .exAB | .ldbBAImm8 _ | .ldbBAEXT | .ldbBAXL | .ldbBAXH | .ldbBAYL | .ldbBAYH | .ldbBASP1 | .ldbBASP2 => [.a, .b]
  | .decSP2 | .incSP2 | .ldbSP2BA | .popF | .pushA | .pushB | .pushF => [.sp2]
  | .intImm6 _ | .reti => [.sp1, .q, .sp2]
  | .ldMemXIncMemYInc => [.x, .y]
  | .ldMemYIncMemXInc => [.y, .x]
  | .ldbBAMemXInc => [.a, .b, .x]
  | .ldbBAMemYInc => [.a, .b, .y]
  | .ldbEXTImm8 _ | .ldbEXTBA => [.ext]
  | .popA => [.a, .sp2]
  | .popB => [.b, .sp2]
  | .popX => [.x, .sp1, .q]
  | .popY => [.y, .sp1, .q]
  | .retdImm8 _ => [.sp1, .q, .x]
  | _ => []

/-- The four data addresses of the SP1 stack entry that pointer value `p` names (R49). -/
def entry16 (p : Byte) : List Addr := [eaSp1 p, eaSp1 p + 1#16, eaSp1 p + 2#16, eaSp1 p + 3#16]

/-- The data addresses an instruction stores to from a state: the effective address of its memory destination, the slots it
pushes to. -/
def storedAddresses (i : Instr) (s : State) : List Addr :=
  match i with
  | .adcMemXA | .adcMemXB | .adcMemXImm4 _ | .adcMemXBN4 _ | .adcMemXZeroN4 _ | .addMemXA | .addMemXB | .addMemXImm4 _
    | .andMemXA | .andMemXB | .andMemXImm4 _ | .decMemXN4 _ | .exAMemX | .exBMemX | .incMemXN4 _ | .ldMemXA | .ldMemXB
    | .ldMemXImm4 _ | .orMemXA | .orMemXB | .orMemXImm4 _ | .rlMemX | .rrMemX | .sbcMemXA | .sbcMemXB | .sbcMemXImm4 _
    | .sbcMemXBN4 _ | .sbcMemXZeroN4 _ | .sllMemX | .srlMemX | .subMemXA | .subMemXB | .subMemXImm4 _ | .xorMemXA
    | .xorMemXB | .xorMemXImm4 _ => [eaInd s .x]
  | .adcMemYA | .adcMemYB | .adcMemYImm4 _ | .adcMemYBN4 _ | .adcMemYZeroN4 _ | .addMemYA | .addMemYB | .addMemYImm4 _
    | .andMemYA | .andMemYB | .andMemYImm4 _ | .decMemYN4 _ | .exAMemY | .exBMemY | .incMemYN4 _ | .ldMemYA | .ldMemYB
    | .ldMemYImm4 _ | .orMemYA | .orMemYB | .orMemYImm4 _ | .rlMemY | .rrMemY | .sbcMemYA | .sbcMemYB | .sbcMemYImm4 _
    | .sbcMemYBN4 _ | .sbcMemYZeroN4 _ | .sllMemY | .srlMemY | .subMemYA | .subMemYB | .subMemYImm4 _ | .xorMemYA
    | .xorMemYB | .xorMemYImm4 _ => [eaInd s .y]
  | .adcMemXIncA | .adcMemXIncB | .adcMemXIncImm4 _ | .adcMemXIncBN4 _ | .adcMemXIncZeroN4 _ | .addMemXIncA
    | .addMemXIncB | .addMemXIncImm4 _ | .andMemXIncA | .andMemXIncB | .andMemXIncImm4 _ | .decMemXIncN4 _
    | .exAMemXInc | .exBMemXInc | .incMemXIncN4 _ | .ldMemXIncA | .ldMemXIncB | .ldMemXIncImm4 _ | .ldMemXMemY
    | .ldMemXMemYInc | .ldMemXIncMemY | .ldMemXIncMemYInc | .orMemXIncA | .orMemXIncB | .orMemXIncImm4 _ | .rlMemXInc
    | .rrMemXInc | .sbcMemXIncA | .sbcMemXIncB | .sbcMemXIncImm4 _ | .sbcMemXIncBN4 _ | .sbcMemXIncZeroN4 _
    | .sllMemXInc | .srlMemXInc | .subMemXIncA | .subMemXIncB | .subMemXIncImm4 _ | .xorMemXIncA | .xorMemXIncB
    | .xorMemXIncImm4 _ => [s.x]
  | .adcMemYIncA | .adcMemYIncB | .adcMemYIncImm4 _ | .adcMemYIncBN4 _ | .adcMemYIncZeroN4 _ | .addMemYIncA
    | .addMemYIncB | .addMemYIncImm4 _ | .andMemYIncA | .andMemYIncB | .andMemYIncImm4 _ | .decMemYIncN4 _
    | .exAMemYInc | .exBMemYInc | .incMemYIncN4 _ | .ldMemYIncA | .ldMemYIncB | .ldMemYIncImm4 _ | .ldMemYMemX
    | .ldMemYMemXInc | .ldMemYIncMemX | .ldMemYIncMemXInc | .orMemYIncA | .orMemYIncB | .orMemYIncImm4 _ | .rlMemYInc
    | .rrMemYInc | .sbcMemYIncA | .sbcMemYIncB | .sbcMemYIncImm4 _ | .sbcMemYIncBN4 _ | .sbcMemYIncZeroN4 _
    | .sllMemYInc | .srlMemYInc | .subMemYIncA | .subMemYIncB | .subMemYIncImm4 _ | .xorMemYIncA | .xorMemYIncB
    | .xorMemYIncImm4 _ => [s.y]
  | .calrMemAddr6 _ | .calrSign8 _ | .calzImm8 _ | .pushX | .pushY => entry16 (s.sp1 - 1#8)
  | .clrMem00Addr6Imm2 a _ | .decMemAddr6 a | .incMemAddr6 a | .setMem00Addr6Imm2 a _ => [ea00 a]
  | .clrMemFFAddr6Imm2 a _ | .setMemFFAddr6Imm2 a _ => [eaFF a]
  | .intImm6 _ => eaSp2 (s.sp2 - 1#8) :: entry16 (s.sp1 - 1#8)
  | .ldbMemXIncBA | .ldbMemXIncImm8 _ | .retdImm8 _ => [s.x, s.x + 1#16]
  | .ldbMemYIncBA => [s.y, s.y + 1#16]
  | .pushA | .pushB | .pushF => [eaSp2 (s.sp2 - 1#8)]
  | _ => []

/-! ### Words (R74, R75) -/

/-- The don't-care bits of an instruction's code (R74). -/
def dontCareBits (i : Instr) : PWord :=
  match i with
  | .adcAA | .adcAB | .adcBA | .adcBB | .addAA | .addAB | .addBA | .addBB | .addXBA | .addYBA | .andAA | .andAB
    | .andBA | .andBB | .bitAA | .bitAB | .bitBA | .bitBB | .jpY | .ldbBAEXT | .ldbBASP1 | .ldbBASP2 | .ldbEXTBA
    | .ldbSP1BA | .ldbSP2BA | .nop | .orAA | .orAB | .orBA | .orBB | .popY | .pushY | .sbcAA | .sbcAB | .sbcBA
    | .sbcBB | .subAA | .subAB | .subBA | .subBB | .xorAA | .xorAB | .xorBA | .xorBB => 0x0001#13
  | .cmpAA | .cmpAB | .cmpBA | .cmpBB => 0x0008#13
  | .ret => 0x0002#13
  | _ => 0x0000#13

/-- `count` words from `start` on, `stride` apart. -/
def wordRun (start stride count : Nat) : List PWord := (List.range count).map fun k => BitVec.ofNat 13 (start + stride * k)

/-- The table of unassigned words (R75). -/
def reservedWords : List PWord :=
  wordRun 0x1878 1 8 ++ wordRun 0x18F8 1 8 ++ wordRun 0x1978 1 8 ++ wordRun 0x19F8 1 8 ++ wordRun 0x1A78 1 8 ++
    wordRun 0x1AF8 1 8 ++ wordRun 0x1B78 1 8 ++ wordRun 0x1BF8 1 8 ++ wordRun 0x1E71 2 8 ++ wordRun 0x1EF1 2 4 ++
    wordRun 0x1FDC 1 4 ++ [0x1FF4#13]

end Sys2Proof.Machine
end

