-- ==== Sys2Proof/Certificates/Slice0/Obligations.lean ====
section
/-! DEFINITION. The statements: what the rules of spec/ say the instructions and the machine do. In every statement about an
instruction, `s` is any state, reached by a run or not, unless `State.Inv` is named. -/

section

open Sys2Proof Sys2Proof.Machine

/-! ### Encoding -/

/-- Every well-formed instruction's code decodes to that instruction, with every operand at every value (R73, R76 to R80). -/
def Obligations.DecodeOfEncode : Prop :=
  ∀ i : Instr, i.wellFormed = true → decode (encode i) = some i

/-- A word decodes to an instruction exactly if it differs from the instruction's code in don't-care bits at most; the code
itself has 0 there (R73, R74). -/
def Obligations.DecodeUpToDontCareBits : Prop :=
  (∀ (w : PWord) (i : Instr),
    decode w = some i ↔ i.wellFormed = true ∧ w &&& ~~~dontCareBits i = encode i &&& ~~~dontCareBits i) ∧
  ∀ i : Instr, encode i &&& dontCareBits i = 0#13

/-- The words that are no instruction's code are the 81 of the table of R75, and running one is the model fault
`ReservedEncoding` with its address and the word, which is the spec's own decision D3 (assumption 14). -/
def Obligations.ReservedWords : Prop :=
  reservedWords.length = 81 ∧ reservedWords.Nodup ∧
  (∀ w : PWord, decode w = none ↔ w ∈ reservedWords) ∧
  ∀ (s : State) (w : PWord), QuietBoundary s → fetch s = .ok w → w ∈ reservedWords →
    step s = .fault (.reservedEncoding s.pc w)

/-- Codes the spec prints decode to the instructions it prints them for: register forms and their don't-care aliases (R74,
R83, R112, R122), radix fields of ADC and SBC (R78, R184, R191), the complemented field of CMP (R79, R285), and 8-bit, 6-bit
and 2-bit fields (R248, R280, R382, R398). -/
def Obligations.PrintedWordsDecode : Prop :=
  decode 0x1972#13 = some .addAB ∧ decode 0x0A7D#13 = some (.ldbXLImm8 0x7D#8) ∧
  decode 0x0E5D#13 = some (.cmpXImm8 0xA2#8) ∧ decode 0x1FA0#13 = some (.intImm6 0x20#6) ∧
  decode 0x1610#13 = some (.setMem00Addr6Imm2 0x10#6 0#2) ∧ decode 0x19F1#13 = some .adcAA ∧
  decode 0x1E78#13 = some .cmpAA ∧ decode 0x1FFA#13 = some .ret ∧ decode 0x1FFF#13 = some .nop ∧
  decode 0x1EF8#13 = some .ldMemYMemX ∧ decode 0x00FF#13 = some (.jrSign8 0xFF#8) ∧
  decode 0x10D6#13 = some (.adcBAN4 10) ∧ decode 0x10CA#13 = some (.sbcBAN4 10)

/-! ### The step -/

/-- A step with nothing to take at the boundary is the meaning of the instruction that the word at PC decodes to, on the state
after the boundary has taken its input (R93, R307). -/
def Obligations.StepRunsDecodedInstruction : Prop :=
  (∀ (s : State) (w : PWord) (i : Instr), QuietBoundary s → fetch s = .ok w → decode w = some i →
    step s = exec i (afterInput s)) ∧
  ∀ (s : State) (inp : BoundaryInput) (rest : List BoundaryInput) (w : PWord) (i : Instr),
    s.inputs = inp :: rest → s.run = .run → inputRefusal s.cfg inp = none → inp.reset = false →
    accepted (irqLine inp (afterInput s)) (latchNmi inp (afterInput s)) = none →
    fetch s = .ok w → decode w = some i → step s = exec i (latchNmi inp (afterInput s))

/-- The fetch gives the word the program image holds at PC, and where none exists the step is the model fault `UnmappedFetch`,
the spec's own decision D10 (R43, assumption 15). -/
def Obligations.FetchReadsProgramMemory : Prop :=
  (∀ (s : State) (w : PWord),
    fetch s = .ok w ↔ s.pc.toNat < s.cfg.romWords ∧ Cells.lookup s.prog s.pc.toNat = some w) ∧
  ∀ s : State, QuietBoundary s → (s.cfg.romWords ≤ s.pc.toNat ∨ Cells.lookup s.prog s.pc.toNat = none) →
    step s = .fault (.unmappedFetch s.pc)

/-- An instruction marked "Extended addressing: Invalid" that starts with E = 1 is the model fault `ExtMisuse` with its
address and word, and nothing else is: the spec's own decision D6 (R27, assumption 13). -/
def Obligations.ExtMisuseExactly : Prop :=
  (∀ (i : Instr) (s : State), flagE s.f = true → extValid i = false →
    exec i s = .fault (.extMisuse s.pc (Cells.lookup s.prog s.pc.toNat))) ∧
  (∀ (i : Instr) (s : State) (a : Addr) (w : Option PWord), exec i s = .fault (.extMisuse a w) →
    flagE s.f = true ∧ extValid i = false) ∧
  ∀ (s : State) (w : PWord) (i : Instr), QuietBoundary s → fetch s = .ok w → decode w = some i → flagE s.f = true →
    extValid i = false → step s = .fault (.extMisuse s.pc (some w))

/-! ### What every instruction does -/

/-- Every instruction adds its "Cycle" column to the cycle counter, whatever its operands; a hardware interrupt entry adds 3,
which is the spec's own decision D17 (R310, R365, assumption 23). -/
def Obligations.CyclesOfEveryInstruction : Prop :=
  (∀ (i : Instr) (s t : State), exec i s = .next t → t.cycles = s.cycles + busCycles i) ∧
  ∀ (v : Nibble) (s t : State), enterInterrupt v s = .ok t → t.cycles = s.cycles + 3

/-- An instruction that is no taken jump, call, return, `INT` or `JP` ends with PC at the next address, however many cycles it
takes; a conditional jump that is not taken does too, and a transfer ends with PC at its target (R17, targets R382 to R398).
That PC wraps past FFFFH is the spec's own decision D4 (R18, assumption 17), and that CALR [addr6] takes its displacement from
the state after the push its D15 (R393, assumption 21). -/
def Obligations.ProgramCounterAdvance : Prop :=
  (∀ (i : Instr) (s t : State), exec i s = .next t → transfersControl i = false → t.pc = s.pc + 1#16) ∧
  (∀ (c : JumpCond) (d : Byte) (s t : State), exec (c.instr d) s = .next t →
    t.pc = if c.holds s.f then branchTarget s (signOperand s d) else s.pc + 1#16) ∧
  (∀ (s t : State) (d : Byte), exec (.calrSign8 d) s = .next t → t.pc = branchTarget s (signOperand s d)) ∧
  (∀ (s t : State) (i : Byte), exec (.calzImm8 i) s = .next t → t.pc = i.setWidth 16) ∧
  (∀ (s t : State) (n : BitVec 6), exec (.intImm6 n) s = .next t → t.pc = 0x0100#16 + n.setWidth 16) ∧
  (∀ (s t : State) (b : Byte), exec .ret s = .next t ∨ exec .reti s = .next t ∨ exec (.retdImm8 b) s = .next t →
    s.q = some t.pc) ∧
  (∀ s t : State, exec .rets s = .next t → s.q = some (t.pc - 1#16)) ∧
  (∀ s t : State, exec .jpY s = .next t → t.pc = s.y) ∧
  (∀ s t : State, exec .jrA s = .next t → t.pc = branchTarget s (s.a.setWidth 16)) ∧
  (∀ s t : State, exec .jrBA s = .next t → t.pc = branchTarget s ((s.b ++ s.a).setWidth 16)) ∧
  ∀ (s t : State) (a : BitVec 6), exec (.jrMemAddr6 a) s = .next t ∨ exec (.calrMemAddr6 a) s = .next t →
    ∃ v : Nibble, t.pc = branchTarget s (v.setWidth 16) ∧
      (kindAt s.cfg (Page.low.address a) ≠ some .io → wordAt t (Page.low.address a).toNat = some v)

/-- E = 1 makes the instruction that executes use EXT: for `[%X]` and `[%Y]`, for the sign8 of `ADD %ir` and of the relative
branches, for the imm8 of `CMP %ir`, and for `LDB %XL,imm8` and `LDB %YL,imm8`; E is set to 1 by the two instructions that
write EXT, ends as the value written to bit 3 of F says after the seven F-writing ones, and is 0 after reset (R23); every
other instruction, `INT` among them, ends with E = 0, and hardware interrupt entry and `INT` save F with whatever E holds,
entry leaving E as it is wherever one is accepted with E = 1 only under `defer` (R24). That E selects those operands for the
instructions is said by the statements of their forms. -/
def Obligations.ExtensionFlagIsConsumed : Prop :=
  (∀ (i : Instr) (s t : State), exec i s = .next t → replacesF i = false → flagE t.f = setsE i) ∧
  (∀ (s t : State) (v : Byte), exec (.ldbEXTImm8 v) s = .next t ∨ exec .ldbEXTBA s = .next t → flagE t.f = true) ∧
  (∀ (s t : State) (v : Nibble),
    (exec .ldFA s = .next t → flagE t.f = s.a.getLsbD 3) ∧
    (exec (.ldFImm4 v) s = .next t → flagE t.f = v.getLsbD 3) ∧
    (exec (.andFImm4 v) s = .next t → flagE t.f = (flagE s.f && v.getLsbD 3)) ∧
    (exec (.orFImm4 v) s = .next t → flagE t.f = (flagE s.f || v.getLsbD 3)) ∧
    (exec (.xorFImm4 v) s = .next t → flagE t.f = (flagE s.f != v.getLsbD 3)) ∧
    (exec .popF s = .next t ∨ exec .reti s = .next t →
      ∃ w, wordAt s s.sp2.toNat = some w ∧ flagE t.f = w.getLsbD 3)) ∧
  (∀ s : State, (∀ k : Idx, flagE s.f = false → eaInd s k = s.idx k) ∧
    (flagE s.f = true → eaInd s .x = 0x00#8 ++ s.ext ∧ eaInd s .y = 0xFF#8 ++ s.ext ∧
      ∀ i : Byte, signOperand s i = s.ext ++ i ∧ cmpOperand s i = (~~~s.ext) ++ i ∧
        ∀ k : Idx, exec (ldbLowImm k i) s = .next (endedSameCZ (s.setIdx k (s.ext ++ i)) 1 (nextPc s)))) ∧
  (∀ s t : State, eaSp2 (s.sp2 - 1#8) ∉ entry16 (s.sp1 - 1#8) →
    (∃ v, enterInterrupt v s = .ok t) ∨ (∃ n, exec (.intImm6 n) s = .next t) →
    wordAt t (eaSp2 t.sp2).toNat = some s.f) ∧
  (∀ (irq : Option Nibble) (s t : State), (flagE s.f = true → s.defer = true) → accepted irq s = some (.ok t) →
    flagE t.f = flagE s.f) ∧
  (∀ s : State, flagE (resetEvent s).f = false) ∧ flagE State.reset.f = false

/-- The eleven instructions end with `defer` = 1, every other one with `defer` = 0; where it is 1 nothing is accepted; reset
leaves 0, which the spec marks as derived (R33, R313, assumption 31). -/
def Obligations.DeferralMarker : Prop :=
  (∀ (i : Instr) (s t : State), exec i s = .next t → t.defer = defers i) ∧
  (∀ (irq : Option Nibble) (s : State), s.defer = true → accepted irq s = none) ∧
  (∀ s : State, (resetEvent s).defer = false) ∧ State.reset.defer = false

/-- The stack-pointer-pair mask moves with `LDB %SP1,%BA` and `LDB %SP2,%BA` alone, as R32 says; reset closes it; only
`PAIR_SET` lets NMI or IRQ in; `INT` does not look at it. That setting the same pointer again leaves the mask as it is is the
spec's own decision D9 (assumption 19). -/
def Obligations.PairMaskTransitions : Prop :=
  (∀ (i : Instr) (s t : State), exec i s = .next t → setsPointer i = none → t.pairMask = s.pairMask) ∧
  (∀ (i : Instr) (s t : State) (p : StackPtr), exec i s = .next t → setsPointer i = some p →
    (s.pairMask = .bothUnset ∨ s.pairMask = .pairSet → t.pairMask = .oneSet p) ∧
    (s.pairMask = .oneSet p → t.pairMask = .oneSet p) ∧
    ∀ q, q ≠ p → s.pairMask = .oneSet q → t.pairMask = .pairSet) ∧
  (∀ s : State, (resetEvent s).pairMask = .bothUnset) ∧ State.reset.pairMask = .bothUnset ∧
  (∀ (irq : Option Nibble) (s : State), s.pairMask ≠ .pairSet → accepted irq s = none) ∧
  ∀ (v : BitVec 6) (s t : State) (m : PairMask), exec (.intImm6 v) s = .next t →
    exec (.intImm6 v) { s with pairMask := m } = .next { t with pairMask := m }

/-- I is changed only by the F-writing instructions, by hardware interrupt entry (to 0) and by reset (to 0); with I = 1 an IRQ
is accepted, with I = 0 none is, and an NMI is accepted and `INT` runs whatever I is; the pin IF is the inverse of I (R22). -/
def Obligations.InterruptFlag : Prop :=
  (∀ (i : Instr) (s t : State), exec i s = .next t → replacesF i = false → flagI t.f = flagI s.f) ∧
  (∀ (v : Nibble) (s t : State), enterInterrupt v s = .ok t → flagI t.f = false) ∧
  (∀ s : State, flagI (resetEvent s).f = false) ∧
  (∀ (irq : Option Nibble) (s : State), flagI s.f = false → s.nmiPending = false → accepted irq s = none) ∧
  (∀ (v : Nibble) (s : State), s.pairMask = .pairSet → s.defer = false → s.nmiPending = false → flagI s.f = true →
    accepted (some v) s = some (acceptIrq v s)) ∧
  (∀ s : State, s.pairMask = .pairSet → s.defer = false → s.nmiPending = true → accepted none s = some (acceptNmi s)) ∧
  (∀ (v : BitVec 6) (s t : State) (b : Bool), exec (.intImm6 v) s = .next t →
    flagI t.f = flagI s.f ∧ ∃ u, exec (.intImm6 v) { s with f := withI s.f b } = .next u ∧ flagI u.f = b) ∧
  ∀ s : State, pinIf s = !flagI s.f

/-- C changes only where R21 says, and Z only where R20 says. -/
def Obligations.CarryAndZeroFrame : Prop :=
  ∀ (i : Instr) (s t : State), exec i s = .next t →
    (writesC i = false → flagC t.f = flagC s.f) ∧ (writesZ i = false → flagZ t.f = flagZ s.f)

/-- Every register keeps its contents but the instruction's destination, an index register it increments, and the stack
pointer and queue register it moves, which `writtenRegs` names. -/
def Obligations.RegisterFrame : Prop :=
  ∀ (i : Instr) (s t : State), exec i s = .next t → ∀ r : RegName, r ∉ writtenRegs i → r.same s t

/-- Every data word keeps its contents but those at the addresses the instruction stores to, which `storedAddresses` computes
from the state it starts in. -/
def Obligations.MemoryFrame : Prop :=
  ∀ (i : Instr) (s t : State), exec i s = .next t →
    ∀ n : Nat, (∀ a ∈ storedAddresses i s, a.toNat ≠ n) → wordAt t n = wordAt s n

/-- No instruction touches program memory, the configuration, the environment's inputs, the NMI latch or the reset status;
only HALT and SLP change the run state; the events an instruction adds are I/O accesses, or USLP for `SLP`: none is an
interrupt acknowledge; without an I/O access the peripheral's state stays as it is (R40, R52, R311, R325, R331). That
peripherals act through I/O accesses alone is the spec's own decision D12 (assumption 30), the form of their state the model's
choice (assumption 4). -/
def Obligations.CoreFrame : Prop :=
  ∀ (i : Instr) (s t : State), exec i s = .next t →
    t.prog = s.prog ∧ t.cfg = s.cfg ∧ t.inputs = s.inputs ∧ t.nmiPending = s.nmiPending ∧ t.inReset = s.inReset ∧
    (i ≠ .halt → i ≠ .slp → t.run = s.run) ∧
    ∃ added : List Event, t.events = added ++ s.events ∧
      (∀ e ∈ added, (∃ a v, e = .ioRead a v) ∨ (∃ a v, e = .ioWrite a v) ∨ (i = .slp ∧ e = .uslp)) ∧
      ((∀ e ∈ added, ∀ a v, e ≠ .ioRead a v ∧ e ≠ .ioWrite a v) → t.periph = s.periph)

/-! ### Every step -/

/-- Every step keeps the invariant: canonical memories, a legal configuration (R6, what is legal being the model's reading,
assumption 7), data only in RAM and ROM (R45; that a write elsewhere faults is the spec's own decision D10, assumption 15,
that the 16-bit range is RAM assumption 26), E = 1 only where interrupts are deferred (R33, R316), `defer` = 0 in standby
(R327), and in reset status PC, the run state and the hidden state as reset leaves them (R350, R351). That `defer` and the NMI
latch are cleared by reset is an inference the spec marks as its own (assumption 31), that reset status lasts to the next
boundary with SR high the model's choice (assumption 12). -/
def Obligations.StepKeepsInvariant : Prop :=
  ∀ s t : State, s.Inv → step s = .next t → t.Inv

/-- The state after reset has the invariant (R39, R351). What a legal configuration is, is the model's reading (assumption 7);
that SR is high again in it is assumption 12. -/
def Obligations.ResetHasInvariant : Prop := State.reset.Inv

/-- No step changes program memory, the configuration, or a data word that is not RAM (R40, R43, R45); that a write elsewhere
faults is the spec's own decision D10 (assumption 15). -/
def Obligations.StepWritesOnlyRam : Prop :=
  ∀ s t : State, s.cfg.Legal → step s = .next t →
    t.prog = s.prog ∧ t.cfg = s.cfg ∧ ∀ n : Nat, kindIn s.cfg.dataMap n ≠ some .ram → wordAt t n = wordAt s n

/-! ### The arithmetic unit -/

/-- Binary addition and subtraction with their C and Z; ADD, SUB and CMP take no old C. R121 marks the exact carry and borrow
conditions as derived from the source's definitions of the flags. -/
def Obligations.BinaryArithmetic : Prop :=
  ∀ (cin : Bool) (x y : Nibble),
    (let o := BinOp.adc.alu cin x y
     let t := x.toNat + y.toNat + cin.toNat
     o.res.toNat = t % 16 ∧ (o.c = true ↔ 16 ≤ t) ∧ (o.z = true ↔ o.res = 0#4)) ∧
    (let o := BinOp.add.alu cin x y
     let t := x.toNat + y.toNat
     o.res.toNat = t % 16 ∧ (o.c = true ↔ 16 ≤ t) ∧ (o.z = true ↔ o.res = 0#4)) ∧
    (let o := BinOp.sbc.alu cin x y
     let t : Int := (x.toNat : Int) - y.toNat - cin.toNat
     (o.res.toNat : Int) = t % 16 ∧ (o.c = true ↔ t < 0) ∧ (o.c = true ↔ x.toNat < y.toNat + cin.toNat) ∧
      (o.z = true ↔ o.res = 0#4)) ∧
    (let o := BinOp.sub.alu cin x y
     let t : Int := (x.toNat : Int) - y.toNat
     (o.res.toNat : Int) = t % 16 ∧ (o.c = true ↔ t < 0) ∧ (o.c = true ↔ x.toNat < y.toNat) ∧
      (o.z = true ↔ o.res = 0#4)) ∧
    TestOp.cmp.alu cin x y = BinOp.sub.alu cin x y

/-- AND, OR, XOR and BIT bit by bit; C stays and Z says whether the result is 0 (R210 b and c). -/
def Obligations.LogicOperations : Prop :=
  ∀ (cin : Bool) (x y : Nibble),
    (∀ k : Nat, k < 4 →
      (BinOp.and.alu cin x y).res.getLsbD k = (x.getLsbD k && y.getLsbD k) ∧
      (BinOp.or.alu cin x y).res.getLsbD k = (x.getLsbD k || y.getLsbD k) ∧
      (BinOp.xor.alu cin x y).res.getLsbD k = (x.getLsbD k != y.getLsbD k) ∧
      (TestOp.bit.alu cin x y).res.getLsbD k = (x.getLsbD k && y.getLsbD k)) ∧
    ∀ o : AluOut, o = BinOp.and.alu cin x y ∨ o = BinOp.or.alu cin x y ∨ o = BinOp.xor.alu cin x y ∨
      o = TestOp.bit.alu cin x y → o.c = cin ∧ (o.z = true ↔ o.res = 0#4)

/-- N's-adjust addition for every radix 1 to 16 and all operands, its agreement with binary ADC at 16 and with the field of
the code, its worked rows, and its result on digits of the radix. The closed formula of R180 is the spec's own decision D7
(assumption 18). -/
def Obligations.RadixAddition : Prop :=
  (∀ (n : Nat) (cin : Bool) (x y : Nibble), 1 ≤ n → n ≤ 16 →
    let t := x.toNat + y.toNat + cin.toNat
    let o := RadixOp.adc.alu n cin x y
    (n ≤ t → o.res.toNat = (t - n) % 16 ∧ o.c = true) ∧ (t < n → o.res.toNat = t ∧ o.c = false) ∧
    (o.z = true ↔ o.res = 0#4) ∧
    (n ≤ t ↔ 16 ≤ (16 - n) + t) ∧ (n ≤ t → o.res.toNat = ((16 - n) + t) % 16) ∧
    (x.toNat < n → y.toNat < n → o.res.toNat < n ∧ t = o.res.toNat + n * o.c.toNat)) ∧
  (∀ (cin : Bool) (x y : Nibble), RadixOp.adc.alu 16 cin x y = BinOp.adc.alu cin x y) ∧
  RadixOp.adc.alu 8 false 2#4 7#4 = ⟨1#4, true, false⟩ ∧ RadixOp.adc.alu 8 false 5#4 3#4 = ⟨0#4, true, true⟩ ∧
  RadixOp.adc.alu 10 false 9#4 9#4 = ⟨8#4, true, false⟩ ∧ RadixOp.adc.alu 10 false 0xA#4 9#4 = ⟨9#4, true, false⟩ ∧
  RadixOp.adc.alu 10 false 0xA#4 0xA#4 = ⟨0xA#4, true, false⟩ ∧
  RadixOp.adc.alu 10 false 0xA#4 0xF#4 = ⟨0xF#4, true, false⟩ ∧
  ∀ (n : Nat) (cin : Bool) (x y : Nibble), StepOp.inc.alu n cin x y = RadixOp.adc.alu n false x y

/-- N's-adjust subtraction for every radix 1 to 16 and all operands, its agreement with binary SBC at 16, and its worked rows.
The closed formula of R181 is the spec's own decision D7 (assumption 18). -/
def Obligations.RadixSubtraction : Prop :=
  (∀ (n : Nat) (cin : Bool) (x y : Nibble), 1 ≤ n → n ≤ 16 →
    let t : Int := (x.toNat : Int) - y.toNat - cin.toNat
    let o := RadixOp.sbc.alu n cin x y
    (t < 0 → (o.res.toNat : Int) = (t + n) % 16 ∧ o.c = true) ∧ (0 ≤ t → (o.res.toNat : Int) = t ∧ o.c = false) ∧
    (o.z = true ↔ o.res = 0#4)) ∧
  (∀ (cin : Bool) (x y : Nibble), RadixOp.sbc.alu 16 cin x y = BinOp.sbc.alu cin x y) ∧
  (∀ (n : Nat) (cin : Bool) (x y : Nibble), 1 ≤ n → n ≤ 16 →
    (x.toNat : Int) - y.toNat - cin.toNat < 0 →
    ((RadixOp.sbc.alu n cin x y).res.toNat : Int) =
      (((x.toNat : Int) - y.toNat - cin.toNat) % 16 + (fieldOfRadix n).toNat) % 16) ∧
  RadixOp.sbc.alu 10 false 9#4 7#4 = ⟨2#4, false, false⟩ ∧ RadixOp.sbc.alu 10 false 1#4 2#4 = ⟨9#4, true, false⟩ ∧
  RadixOp.sbc.alu 10 false 0xF#4 0#4 = ⟨0xF#4, false, false⟩ ∧
  RadixOp.sbc.alu 10 true 0#4 0xF#4 = ⟨0xA#4, true, false⟩ ∧
  ∀ (n : Nat) (cin : Bool) (x y : Nibble), StepOp.dec.alu n cin x y = RadixOp.sbc.alu n false x y

/-- The four shifts and rotates bit by bit, the bit that leaves going to C, Z from the four result bits (R250 c and d). -/
def Obligations.ShiftsAndRotates : Prop :=
  ∀ (cin : Bool) (x y : Nibble),
    (∀ k : Nat, k < 3 →
      (ShiftOp.sll.alu cin x y).res.getLsbD (k + 1) = x.getLsbD k ∧
      (ShiftOp.rl.alu cin x y).res.getLsbD (k + 1) = x.getLsbD k ∧
      (ShiftOp.srl.alu cin x y).res.getLsbD k = x.getLsbD (k + 1) ∧
      (ShiftOp.rr.alu cin x y).res.getLsbD k = x.getLsbD (k + 1)) ∧
    (ShiftOp.sll.alu cin x y).res.getLsbD 0 = false ∧ (ShiftOp.rl.alu cin x y).res.getLsbD 0 = cin ∧
    (ShiftOp.srl.alu cin x y).res.getLsbD 3 = false ∧ (ShiftOp.rr.alu cin x y).res.getLsbD 3 = cin ∧
    (ShiftOp.sll.alu cin x y).c = x.getLsbD 3 ∧ (ShiftOp.rl.alu cin x y).c = x.getLsbD 3 ∧
    (ShiftOp.srl.alu cin x y).c = x.getLsbD 0 ∧ (ShiftOp.rr.alu cin x y).c = x.getLsbD 0 ∧
    ∀ op : ShiftOp, (op.alu cin x y).z = true ↔ (op.alu cin x y).res = 0#4

/-! ### What the forms of each family do, and that they complete -/

/-- ADD, ADC, SUB, SBC, AND, OR and XOR of a register with a register or an immediate complete with the register, C and Z as
the operation says and everything else as it was. -/
def Obligations.BinaryOnRegisters : Prop :=
  ∀ (op : BinOp) (r : Reg) (s : State) (o : AluOut), flagE s.f = false →
    (∀ q : Reg, op.alu (flagC s.f) (s.reg r) (s.reg q) = o →
      exec (op.regReg r q) s = .next (ended (s.setReg r o.res) 1 (nextPc s) o.c o.z)) ∧
    ∀ i : Nibble, op.alu (flagC s.f) (s.reg r) i = o →
      exec (op.regImm r i) s = .next (ended (s.setReg r o.res) 1 (nextPc s) o.c o.z)

/-- The same seven mnemonics of a register with `[%ir]` (extended or not) or `[%ir]+` complete wherever the word can be read.
An increment past FFFFH wraps by the spec's own decision D5 (assumption 17). -/
def Obligations.BinaryFromMemory : Prop :=
  ∀ (op : BinOp) (r : Reg) (k : Idx) (s s1 : State) (y : Nibble) (o : AluOut),
    op.alu (flagC s.f) (s.reg r) y = o →
    (readWord s (eaInd s k) = .ok (y, s1) →
      exec (op.regMem r k) s = .next (ended (s1.setReg r o.res) 1 (nextPc s) o.c o.z)) ∧
    (flagE s.f = false → readWord s (s.idx k) = .ok (y, s1) →
      exec (op.regMemInc r k) s = .next (ended ((s1.setReg r o.res).bump k 1#16) 1 (nextPc s) o.c o.z))

/-- The same seven mnemonics with `[%ir]` (extended or not) or `[%ir]+` as destination and a register or an immediate complete
wherever the word can be read and written; the result goes back to the word read. An increment past FFFFH wraps by the spec's
own decision D5 (assumption 17). -/
def Obligations.BinaryToMemory : Prop :=
  ∀ (op : BinOp) (k : Idx) (s : State),
    (∀ r : Reg, ModifiesWord (op.memReg k r) 2 op.alu (eaInd s k) (s.reg r) id s) ∧
    (∀ i : Nibble, ModifiesWord (op.memImm k i) 2 op.alu (eaInd s k) i id s) ∧
    (flagE s.f = false →
      (∀ r : Reg, ModifiesWord (op.memIncReg k r) 2 op.alu (s.idx k) (s.reg r) (·.bump k 1#16) s) ∧
      ∀ i : Nibble, ModifiesWord (op.memIncImm k i) 2 op.alu (s.idx k) i (·.bump k 1#16) s)

/-- CMP and BIT of a register with a register, an immediate, `[%ir]` or `[%ir]+`, and of `[%ir]` or `[%ir]+` with a register
or an immediate, complete with C and Z alone changed, and the index register where it is incremented. An increment past FFFFH
wraps by the spec's own decision D5 (assumption 17). -/
def Obligations.CompareAndBitTest : Prop :=
  ∀ (op : TestOp) (r : Reg) (k : Idx) (s : State),
    (flagE s.f = false → ∀ o : AluOut,
      (∀ q : Reg, op.alu (flagC s.f) (s.reg r) (s.reg q) = o →
        exec (op.regReg r q) s = .next (ended s 1 (nextPc s) o.c o.z)) ∧
      ∀ i : Nibble, op.alu (flagC s.f) (s.reg r) i = o →
        exec (op.regImm r i) s = .next (ended s 1 (nextPc s) o.c o.z)) ∧
    (∀ (s1 : State) (y : Nibble) (o : AluOut), op.alu (flagC s.f) (s.reg r) y = o →
      (readWord s (eaInd s k) = .ok (y, s1) →
        exec (op.regMem r k) s = .next (ended s1 1 (nextPc s) o.c o.z)) ∧
      (flagE s.f = false → readWord s (s.idx k) = .ok (y, s1) →
        exec (op.regMemInc r k) s = .next (ended (s1.bump k 1#16) 1 (nextPc s) o.c o.z))) ∧
    TestsWord (op.memReg k r) op.alu (eaInd s k) (s.reg r) id s ∧
    (∀ i : Nibble, TestsWord (op.memImm k i) op.alu (eaInd s k) i id s) ∧
    (flagE s.f = false →
      TestsWord (op.memIncReg k r) op.alu (s.idx k) (s.reg r) (·.bump k 1#16) s ∧
      ∀ i : Nibble, TestsWord (op.memIncImm k i) op.alu (s.idx k) i (·.bump k 1#16) s)

/-- Radix ADC and SBC with destination B, from A, `[%ir]` or `[%ir]+`, complete in 2 cycles with the N's-adjusted result (R183
to R186, R191 to R193). An increment past FFFFH wraps by the spec's own decision D5 (assumption 17). -/
def Obligations.RadixToRegister : Prop :=
  ∀ (op : RadixOp) (n : Nat) (k : Idx) (s s1 : State) (y : Nibble) (o : AluOut),
    op.alu n (flagC s.f) s.b y = o →
    (flagE s.f = false → y = s.a →
      exec (op.regReg n) s = .next (ended { s with b := o.res } 2 (nextPc s) o.c o.z)) ∧
    (readWord s (eaInd s k) = .ok (y, s1) →
      exec (op.regMem k n) s = .next (ended { s1 with b := o.res } 2 (nextPc s) o.c o.z)) ∧
    (flagE s.f = false → readWord s (s.idx k) = .ok (y, s1) →
      exec (op.regMemInc k n) s = .next (ended ({ s1 with b := o.res }.bump k 1#16) 2 (nextPc s) o.c o.z))

/-- Radix ADC, SBC, INC and DEC with destination `[%ir]` or `[%ir]+` complete in 2 cycles with the N's-adjusted result in the
word read (R183, R187 to R190, R194 to R201). An increment past FFFFH wraps by the spec's own decision D5 (assumption 17). -/
def Obligations.RadixToMemory : Prop :=
  ∀ (n : Nat) (k : Idx) (s : State),
    (∀ op : RadixOp, ModifiesWord (op.memReg k n) 2 (op.alu n) (eaInd s k) s.b id s ∧
      ModifiesWord (op.memZero k n) 2 (op.alu n) (eaInd s k) 0#4 id s) ∧
    (∀ op : StepOp, ModifiesWord (op.mem k n) 2 (op.alu n) (eaInd s k) 1#4 id s) ∧
    (flagE s.f = false →
      (∀ op : RadixOp, ModifiesWord (op.memIncReg k n) 2 (op.alu n) (s.idx k) s.b (·.bump k 1#16) s ∧
        ModifiesWord (op.memIncZero k n) 2 (op.alu n) (s.idx k) 0#4 (·.bump k 1#16) s) ∧
      ∀ op : StepOp, ModifiesWord (op.memInc k n) 2 (op.alu n) (s.idx k) 1#4 (·.bump k 1#16) s)

/-- SLL, SRL, RL and RR of a register, of `[%ir]` (extended or not) and of `[%ir]+` complete (R250 to R262). An increment past
FFFFH wraps by the spec's own decision D5 (assumption 17). -/
def Obligations.ShiftForms : Prop :=
  ∀ (op : ShiftOp) (s : State),
    (∀ (r : Reg) (o : AluOut), flagE s.f = false → op.alu (flagC s.f) (s.reg r) 0#4 = o →
      exec (op.reg r) s = .next (ended (s.setReg r o.res) 1 (nextPc s) o.c o.z)) ∧
    ∀ k : Idx, ModifiesWord (op.mem k) 2 op.alu (eaInd s k) 0#4 id s ∧
      (flagE s.f = false → ModifiesWord (op.memInc k) 2 op.alu (s.idx k) 0#4 (·.bump k 1#16) s)

/-- INC and DEC of `[addr6]`, and CLR, SET and TST of one bit in either page, complete; CLR, SET and TST work with the mask of
bit `imm2` and leave C alone (R162, R163, R247 to R249). -/
def Obligations.AbsoluteForms : Prop :=
  ∀ (a : BitVec 6) (s : State), flagE s.f = false →
    ModifiesWord (StepOp.inc.absolute a) 2 BinOp.add.alu (Page.low.address a) 1#4 id s ∧
    ModifiesWord (StepOp.dec.absolute a) 2 BinOp.sub.alu (Page.low.address a) 1#4 id s ∧
    ∀ (p : Page) (b : BitVec 2) (m : Nibble), (∀ j : Nat, j < 4 → m.getLsbD j = decide (j = b.toNat)) →
      ModifiesWord (p.clr a b) 2 BinOp.and.alu (p.address a) (~~~m) id s ∧
      ModifiesWord (p.set a b) 2 BinOp.or.alu (p.address a) m id s ∧
      TestsWord (p.tst a b) TestOp.bit.alu (p.address a) m id s

/-- The seven instructions that replace F but RETI: `LD %F,%A`, `LD %F,imm4`, `AND`, `OR`, `XOR %F,imm4` and `POP %F` complete
with F as given and `defer` set (R19, R24, R33). -/
def Obligations.FlagWritingForms : Prop :=
  ∀ s : State, flagE s.f = false →
    exec .ldFA s = .next (endedWithF s 1 (nextPc s) s.a) ∧
    (∀ i : Nibble, exec (.ldFImm4 i) s = .next (endedWithF s 1 (nextPc s) i) ∧
      exec (.andFImm4 i) s = .next (endedWithF s 1 (nextPc s) (s.f &&& i)) ∧
      exec (.orFImm4 i) s = .next (endedWithF s 1 (nextPc s) (s.f ||| i)) ∧
      exec (.xorFImm4 i) s = .next (endedWithF s 1 (nextPc s) (s.f ^^^ i))) ∧
    ∀ v : Nibble, kindAt s.cfg (eaSp2 s.sp2) = some .ram → wordAt s (eaSp2 s.sp2).toNat = some v →
      exec .popF s = .next (endedWithF (popped4 s) 1 (nextPc s) v)

/-- `LD %r,%r'`, `LD %r,imm4`, `LD %A,%F` and `EX %A,%B` complete with the registers exchanged or loaded and no flag but E
changed (R101, R102, R109). -/
def Obligations.RegisterTransfers : Prop :=
  ∀ s : State, flagE s.f = false →
    (∀ r q : Reg, exec (ldRegReg r q) s = .next (endedSameCZ (s.setReg r (s.reg q)) 1 (nextPc s))) ∧
    (∀ (r : Reg) (i : Nibble), exec (ldRegImm r i) s = .next (endedSameCZ (s.setReg r i) 1 (nextPc s))) ∧
    exec .ldAF s = .next (endedSameCZ { s with a := s.f } 1 (nextPc s)) ∧
    exec .exAB s = .next (endedSameCZ { s with a := s.b, b := s.a } 1 (nextPc s))

/-- `LD` between a register and `[%ir]` (extended or not) or `[%ir]+`, and `LD` of an immediate to memory, complete wherever
the word can be read or written (R103 to R108). An increment past FFFFH wraps by the spec's own decision D5 (assumption
17). -/
def Obligations.LoadsAndStores : Prop :=
  ∀ (r : Reg) (k : Idx) (s s1 : State) (v : Nibble),
    (readWord s (eaInd s k) = .ok (v, s1) →
      exec (ldRegMem r k) s = .next (endedSameCZ (s1.setReg r v) 1 (nextPc s))) ∧
    (flagE s.f = false → readWord s (s.idx k) = .ok (v, s1) →
      exec (ldRegMemInc r k) s = .next (endedSameCZ ((s1.setReg r v).bump k 1#16) 1 (nextPc s))) ∧
    (writeWord s (eaInd s k) (s.reg r) = .ok s1 →
      exec (ldMemReg k r) s = .next (endedSameCZ s1 1 (nextPc s))) ∧
    (writeWord s (eaInd s k) v = .ok s1 → exec (ldMemImm k v) s = .next (endedSameCZ s1 1 (nextPc s))) ∧
    (flagE s.f = false → writeWord s (s.idx k) (s.reg r) = .ok s1 →
      exec (ldMemIncReg k r) s = .next (endedSameCZ (s1.bump k 1#16) 1 (nextPc s))) ∧
    (flagE s.f = false → writeWord s (s.idx k) v = .ok s1 →
      exec (ldMemIncImm k v) s = .next (endedSameCZ (s1.bump k 1#16) 1 (nextPc s)))

/-- `LD [%ir](+),[%ir'](+)` in its eight forms and `EX` of a register with `[%ir]` (extended or not) or `[%ir]+` read, then
write, then increment, and complete in 2 cycles (R55, R110 to R115). An increment past FFFFH wraps by the spec's own decision
D5 (assumption 17). -/
def Obligations.CopiesAndExchanges : Prop :=
  ∀ (k : Idx) (s s1 s2 : State) (v : Nibble),
    (flagE s.f = false → readWord s (s.idx (otherIdx k)) = .ok (v, s1) → writeWord s1 (s.idx k) v = .ok s2 →
      ∀ dstInc srcInc : Bool, exec (ldMemMem k dstInc srcInc) s =
        .next (endedSameCZ ((s2.bump k (if dstInc then 1#16 else 0#16)).bump (otherIdx k)
          (if srcInc then 1#16 else 0#16)) 2 (nextPc s))) ∧
    ∀ r : Reg,
      (readWord s (eaInd s k) = .ok (v, s1) → writeWord s1 (eaInd s k) (s.reg r) = .ok s2 →
        exec (exRegMem r k) s = .next (endedSameCZ (s2.setReg r v) 2 (nextPc s))) ∧
      (flagE s.f = false → readWord s (s.idx k) = .ok (v, s1) → writeWord s1 (s.idx k) (s.reg r) = .ok s2 →
        exec (exRegMemInc r k) s = .next (endedSameCZ ((s2.setReg r v).bump k 1#16) 2 (nextPc s)))

/-- The 8-bit transfers between BA, EXT, the bytes of X and Y and the stack pointers complete; those to EXT set E and `defer`;
`LDB %XL,imm8` and `LDB %YL,imm8` load the whole register from EXT and imm8 when E = 1 (R26, R271, R273 to R275, R278 to
R281). -/
def Obligations.ByteTransfers : Prop :=
  ∀ (s : State) (v : Byte),
    (∀ k : Idx,
      (flagE s.f = false → exec (ldbLowImm k v) s =
        .next (endedSameCZ (s.setIdx k ((s.idx k).extractLsb' 8 8 ++ v)) 1 (nextPc s))) ∧
      (flagE s.f = true → exec (ldbLowImm k v) s = .next (endedSameCZ (s.setIdx k (s.ext ++ v)) 1 (nextPc s)))) ∧
    (flagE s.f = false →
      exec (.ldbBAImm8 v) s =
        .next (endedSameCZ { s with b := v.extractLsb' 4 4, a := v.extractLsb' 0 4 } 1 (nextPc s)) ∧
      (∀ r : ByteReg, v = r.read s → exec (ldbBAByte r) s =
        .next (endedSameCZ { s with b := v.extractLsb' 4 4, a := v.extractLsb' 0 4 } 1 (nextPc s))) ∧
      exec (.ldbEXTImm8 v) s = .next (endedWithF { s with ext := v } 1 (nextPc s)
        (packF true (flagI s.f) (flagC s.f) (flagZ s.f))) ∧
      exec .ldbEXTBA s = .next (endedWithF { s with ext := s.b ++ s.a } 1 (nextPc s)
        (packF true (flagI s.f) (flagC s.f) (flagZ s.f))) ∧
      ∀ k : Idx,
        exec (ldbLowBA k) s =
          .next (endedSameCZ (s.setIdx k ((s.idx k).extractLsb' 8 8 ++ (s.b ++ s.a))) 1 (nextPc s)) ∧
        exec (ldbHighBA k) s =
          .next (endedSameCZ (s.setIdx k ((s.b ++ s.a) ++ (s.idx k).extractLsb' 0 8)) 1 (nextPc s)))

/-- `LDB %BA,[%ir]+`, `LDB [%ir]+,%BA` and `LDB [%X]+,imm8` access two words, the low-order 4 bits at the lower address, add 2
to the index register and complete in 2 cycles (R53, R56, R272, R276, R277). That the low word goes first the spec marks as
derived (assumption 29), the wrap past FFFFH is its own decision D5 (assumption 17). -/
def Obligations.ByteLoadsAndStores : Prop :=
  ∀ (k : Idx) (s s1 s2 : State) (lo hi : Nibble), flagE s.f = false →
    (readWord s (s.idx k) = .ok (lo, s1) → readWord s1 (s.idx k + 1#16) = .ok (hi, s2) →
      exec (ldbBAMemInc k) s = .next (endedSameCZ ({ s2 with a := lo, b := hi }.bump k 2#16) 2 (nextPc s))) ∧
    (writeWord s (s.idx k) s.a = .ok s1 → writeWord s1 (s.idx k + 1#16) s.b = .ok s2 →
      exec (ldbMemIncBA k) s = .next (endedSameCZ (s2.bump k 2#16) 2 (nextPc s))) ∧
    (writeWord s s.x lo = .ok s1 → writeWord s1 (s.x + 1#16) hi = .ok s2 →
      exec (.ldbMemXIncImm8 (hi ++ lo)) s = .next (endedSameCZ { s2 with x := s.x + 2#16 } 2 (nextPc s)))

/-- `LDB %SP1,%BA` and `LDB %SP2,%BA` set the pointer, the pair mask and `defer`; `INC` and `DEC` of a pointer step it modulo
256 with Z from the 8-bit result; SP1 changes refill Q, and all complete where the SP1 entry lies in the 16-bit RAM (R30,
R282, R286, R287). That setting the same pointer again leaves ONE_SET is the spec's own decision D9 (R32, assumption 19), that
a refill from unwritten words completes and leaves Q unwritten its D14 (R358, assumption 3). -/
def Obligations.StackPointerForms : Prop :=
  ∀ s : State, flagE s.f = false →
    (inRam16 s.cfg (eaSp1 (s.b ++ s.a)) = true →
      exec .ldbSP1BA s = .next { endedSameCZ s 1 (nextPc s) with
        sp1 := s.b ++ s.a, q := lookup16 s.mem (eaSp1 (s.b ++ s.a)).toNat, defer := true,
        pairMask := if s.pairMask = .oneSet .sp2 then .pairSet else .oneSet .sp1 }) ∧
    exec .ldbSP2BA s = .next { endedSameCZ s 1 (nextPc s) with
      sp2 := s.b ++ s.a, defer := true,
      pairMask := if s.pairMask = .oneSet .sp1 then .pairSet else .oneSet .sp2 } ∧
    (inRam16 s.cfg (eaSp1 (s.sp1 + 1#8)) = true →
      exec .incSP1 s = .next (ended (popped16 s) 1 (nextPc s) (flagC s.f) (decide (s.sp1 + 1#8 = 0#8)))) ∧
    (inRam16 s.cfg (eaSp1 (s.sp1 - 1#8)) = true →
      exec .decSP1 s = .next (ended
        { s with sp1 := s.sp1 - 1#8, q := lookup16 s.mem (eaSp1 (s.sp1 - 1#8)).toNat } 1 (nextPc s) (flagC s.f)
        (decide (s.sp1 - 1#8 = 0#8)))) ∧
    exec .incSP2 s =
      .next (ended { s with sp2 := s.sp2 + 1#8 } 1 (nextPc s) (flagC s.f) (decide (s.sp2 + 1#8 = 0#8))) ∧
    exec .decSP2 s =
      .next (ended { s with sp2 := s.sp2 - 1#8 } 1 (nextPc s) (flagC s.f) (decide (s.sp2 - 1#8 = 0#8)))

/-- `ADD %ir,%BA`, `ADD %ir,sign8` and `CMP %ir,imm8` complete; the addend is BA zero-extended, sign8 sign-extended or, with E
= 1, EXT:sign8; the comparison is with imm8 or, with E = 1, with (FFH - EXT):imm8; C and Z come from 16 bits, C being left
alone by ADD (R26, R283 to R285). That BA is zero-extended is the spec's own decision D13 (assumption 20). -/
def Obligations.IndexArithmetic : Prop :=
  ∀ (k : Idx) (s : State),
    (∀ d : Addr, flagE s.f = false → d.toNat = s.b.toNat * 16 + s.a.toNat →
      exec (addIdxBA k) s = .next (ended (s.setIdx k (s.idx k + d)) 1 (nextPc s) (flagC s.f)
        (decide (s.idx k + d = 0#16)))) ∧
    (∀ (i : Byte) (d : Addr), (if flagE s.f then d = s.ext ++ i else d.toInt = i.toInt) →
      exec (addIdxSign8 k i) s = .next (ended (s.setIdx k (s.idx k + d)) 1 (nextPc s) (flagC s.f)
        (decide (s.idx k + d = 0#16)))) ∧
    ∀ (i : Byte) (v : Nat), v = (if flagE s.f then (255 - s.ext.toNat) * 256 + i.toNat else i.toNat) →
      exec (cmpIdxImm8 k i) s = .next (ended s 1 (nextPc s) (decide ((s.idx k).toNat < v))
        (decide ((s.idx k).toNat = v)))

/-- `PUSH` and `POP` of A, B and F (POP %F apart) store below SP2 and load from SP2, and complete wherever the word is RAM,
for `POP` RAM that something has written (R291, R292). A word that is not RAM is the model fault `UnmappedWrite` or
`UnmappedRead` (R290 i), POP %F included, the spec's own decision D10 (assumption 15); an unwritten word is `UndefinedRead`,
its D14 (R358, assumption 2). -/
def Obligations.DataStackForms : Prop :=
  ∀ (r : Reg) (s : State) (v : Nibble), flagE s.f = false →
    (kindAt s.cfg (eaSp2 (s.sp2 - 1#8)) = some .ram →
      exec (pushReg r) s = .next (endedSameCZ (pushed4 s (s.reg r)) 1 (nextPc s)) ∧
      exec .pushF s = .next (endedSameCZ (pushed4 s s.f) 1 (nextPc s))) ∧
    (kindAt s.cfg (eaSp2 (s.sp2 - 1#8)) ≠ some .ram →
      exec (pushReg r) s = .fault (.unmappedWrite (eaSp2 (s.sp2 - 1#8))) ∧
      exec .pushF s = .fault (.unmappedWrite (eaSp2 (s.sp2 - 1#8)))) ∧
    (kindAt s.cfg (eaSp2 s.sp2) = some .ram →
      (wordAt s (eaSp2 s.sp2).toNat = some v →
        exec (popReg4 r) s = .next (endedSameCZ ((popped4 s).setReg r v) 1 (nextPc s))) ∧
      (wordAt s (eaSp2 s.sp2).toNat = none →
        exec (popReg4 r) s = .fault (.undefinedRead (eaSp2 s.sp2)) ∧
        exec .popF s = .fault (.undefinedRead (eaSp2 s.sp2)))) ∧
    (kindAt s.cfg (eaSp2 s.sp2) ≠ some .ram →
      exec (popReg4 r) s = .fault (.unmappedRead (eaSp2 s.sp2)) ∧
      exec .popF s = .fault (.unmappedRead (eaSp2 s.sp2)))

/-- `PUSH` of X or Y writes the entry below SP1 and Q; `POP` takes the value from Q and refills it; both complete where the
entry lies in the 16-bit RAM, POP wherever Q holds a value (R30, R294, R295). That POP completes over a refill from unwritten
words, leaving Q unwritten, is the spec's own decision D14 (R358, assumption 3). Where Q is unwritten `POP` is the model fault
`UndefinedRead(Q)`, by D14 too. -/
def Obligations.AddressStackForms : Prop :=
  ∀ (k : Idx) (s : State) (v : Addr), flagE s.f = false →
    (inRam16 s.cfg (eaSp1 (s.sp1 - 1#8)) = true →
      exec (pushIdx16 k) s = .next (endedSameCZ (pushed16 s (s.idx k)) 1 (nextPc s))) ∧
    (inRam16 s.cfg (eaSp1 (s.sp1 + 1#8)) = true → s.q = some v →
      exec (popIdx16 k) s = .next (endedSameCZ ((popped16 s).setIdx k v) 1 (nextPc s))) ∧
    (s.q = none → exec (popIdx16 k) s = .fault .undefinedQueue)

/-- `JR`, `JRC`, `JRNC`, `JRZ` and `JRNZ` complete, taken or not, with E = 0 afterwards; the displacement is sign8 or, with E
= 1, EXT:sign8, from the next address (R15, R26, R380, R382, R386 to R389); targets wrap modulo 2^16, the spec's own decision
D4 (assumption 17). -/
def Obligations.RelativeJumps : Prop :=
  ∀ (c : JumpCond) (d : Byte) (s : State) (disp : Addr),
    (if flagE s.f then disp = s.ext ++ d else disp.toInt = d.toInt) →
    exec (c.instr d) s =
      .next (endedSameCZ s 1 (if c.holds s.f then nextPc s + disp else nextPc s))

/-- `JR %A`, `JR %BA`, `JR [addr6]` and `JP %Y` complete; the displacements are unsigned (R383 to R385, R390). Targets wrap
modulo 2^16, the spec's own decision D4 (assumption 17). -/
def Obligations.RegisterJumps : Prop :=
  ∀ s : State, flagE s.f = false →
    exec .jrA s = .next (endedSameCZ s 1 (nextPc s + BitVec.ofNat 16 s.a.toNat)) ∧
    exec .jrBA s = .next (endedSameCZ s 1 (nextPc s + BitVec.ofNat 16 (s.b.toNat * 16 + s.a.toNat))) ∧
    exec .jpY s = .next (endedSameCZ s 1 s.y) ∧
    ∀ (a : BitVec 6) (s1 : State) (v : Nibble), readWord s (Page.low.address a) = .ok (v, s1) →
      exec (.jrMemAddr6 a) s = .next (endedSameCZ s1 2 (nextPc s + BitVec.ofNat 16 v.toNat))

/-- `CALZ`, `CALR sign8` and `CALR [addr6]` push the next address and complete where the entry lies in the 16-bit RAM; `CALR
[addr6]` reads its displacement after the push, the spec's own decision D15 (R391 to R393, assumption 21). Targets wrap modulo
2^16, the spec's own decision D4 (assumption 17). -/
def Obligations.Calls : Prop :=
  ∀ s : State, inRam16 s.cfg (eaSp1 (s.sp1 - 1#8)) = true →
    (∀ i : Byte, flagE s.f = false →
      exec (.calzImm8 i) s = .next (endedSameCZ (pushed16 s (nextPc s)) 1 (BitVec.ofNat 16 i.toNat))) ∧
    (∀ (d : Byte) (disp : Addr), (if flagE s.f then disp = s.ext ++ d else disp.toInt = d.toInt) →
      exec (.calrSign8 d) s = .next (endedSameCZ (pushed16 s (nextPc s)) 1 (nextPc s + disp))) ∧
    ∀ (a : BitVec 6) (s1 : State) (v : Nibble), flagE s.f = false →
      readWord (pushed16 s (nextPc s)) (Page.low.address a) = .ok (v, s1) →
      exec (.calrMemAddr6 a) s = .next (endedSameCZ s1 2 (nextPc s + BitVec.ofNat 16 v.toNat))

/-- `RET`, `RETS` and `RETD` take the address from Q, refill it and complete where the next entry lies in the 16-bit RAM and Q
holds a value; `RETD` then stores its byte at X, low-order 4 bits first, and adds 2 to X (R394 to R396). That the low word
goes first the spec marks as derived (R56, assumption 29); the wrap of X past FFFFH is its own decision D5, that of `RETS`'s
return address its D4 (R18, R47, assumption 17), and a refill from unwritten words that leaves Q unwritten its D14 (R358,
assumption 3). Where Q is unwritten all three are the model fault `UndefinedRead(Q)`, by D14 too. -/
def Obligations.Returns : Prop :=
  (∀ (s : State) (v : Addr), flagE s.f = false → s.q = some v → inRam16 s.cfg (eaSp1 (s.sp1 + 1#8)) = true →
    exec .ret s = .next (endedSameCZ (popped16 s) 1 v) ∧
    exec .rets s = .next (endedSameCZ (popped16 s) 2 (v + 1#16)) ∧
    ∀ (hi lo : Nibble) (s1 s2 : State), writeWord (popped16 s) s.x lo = .ok s1 →
      writeWord s1 (s.x + 1#16) hi = .ok s2 →
      exec (.retdImm8 (hi ++ lo)) s = .next (endedSameCZ { s2 with x := s.x + 2#16 } 3 v)) ∧
  ∀ s : State, flagE s.f = false → s.q = none →
    exec .ret s = .fault .undefinedQueue ∧ exec .rets s = .fault .undefinedQueue ∧
    ∀ b : Byte, exec (.retdImm8 b) s = .fault .undefinedQueue

/-- Hardware interrupt entry and `INT` write F below SP2 first and the return address below SP1 after it; `RETI` takes PC from
Q and refills Q first and reads F from the SP2 stack after it (R57). `INT` goes on at 0100H + imm6 with I as it was and takes
3 cycles (R398), `RETI` sets `defer` and takes 2 (R33, R397), and both complete where their slots are RAM, whatever I and the
pair mask are. That `RETI` completes over a refill from unwritten words, leaving Q unwritten, is the spec's own decision D14
(R358, assumption 3). Where Q is unwritten `RETI` is the model fault `UndefinedRead(Q)`, by D14 too. -/
def Obligations.SoftwareInterruptAndReturn : Prop :=
  (∀ (s : State) (w : Nibble), kindAt s.cfg (eaSp2 (s.sp2 - 1#8)) = some .ram →
    inRam16 s.cfg (eaSp1 (s.sp1 - 1#8)) = true →
    ∃ t, enterInterrupt w s = .ok t ∧ t.sp1 = s.sp1 - 1#8 ∧ t.sp2 = s.sp2 - 1#8 ∧
      t.mem = (pushed16 (pushed4 s s.f) s.pc).mem) ∧
  ∀ s : State, flagE s.f = false →
    (∀ n : BitVec 6, kindAt s.cfg (eaSp2 (s.sp2 - 1#8)) = some .ram → inRam16 s.cfg (eaSp1 (s.sp1 - 1#8)) = true →
      exec (.intImm6 n) s = .next (endedSameCZ (pushed16 (pushed4 s s.f) (nextPc s)) 3
        (BitVec.ofNat 16 (0x0100 + n.toNat)))) ∧
    (∀ (ret : Addr) (v : Nibble), s.q = some ret → inRam16 s.cfg (eaSp1 (s.sp1 + 1#8)) = true →
      kindAt s.cfg (eaSp2 s.sp2) = some .ram → wordAt s (eaSp2 s.sp2).toNat = some v →
      exec .reti s = .next (endedWithF (popped4 (popped16 s)) 2 ret v)) ∧
    (s.q = none → exec .reti s = .fault .undefinedQueue)

/-- `NOP` only moves on; `HALT` and `SLP` take 2 cycles and leave the core in HALT and SLEEP with the STOP pin low, `SLP` with
USLP low too; STOP is low in HALT, SLEEP and reset status and nowhere else (R325, R331, R401 to R403). -/
def Obligations.SystemForms : Prop :=
  ∀ s : State, flagE s.f = false →
    exec .nop s = .next (endedSameCZ s 1 (nextPc s)) ∧
    exec .halt s = .next { endedSameCZ s 2 (nextPc s) with run := .halt } ∧
    exec .slp s = .next { endedSameCZ s 2 (nextPc s) with run := .sleep, events := .uslp :: s.events } ∧
    ∀ t : State, (exec .halt s = .next t → pinStop t = false ∧ pinUslp t = true) ∧
      (exec .slp s = .next t → pinStop t = false ∧ pinUslp t = false) ∧
      (pinStop t = false ↔ t.run = .halt ∨ t.run = .sleep ∨ t.inReset = true)

/-! ### Interrupts, standby, reset -/

/-- A hardware interrupt is accepted at a boundary if and only if the pair mask is `PAIR_SET`, `defer` is 0, and an NMI is
latched or the IRQ line is low with I = 1 (R306); with both, the NMI is taken, the spec's own decision D19 (R305, assumption
24). -/
def Obligations.AcceptanceConditions : Prop :=
  ∀ (irq : Option Nibble) (s : State),
    ((accepted irq s).isSome = true ↔
      s.pairMask = .pairSet ∧ s.defer = false ∧ (s.nmiPending = true ∨ (irq.isSome = true ∧ flagI s.f = true))) ∧
    (s.pairMask = .pairSet → s.defer = false → s.nmiPending = true → accepted irq s = some (acceptNmi s)) ∧
    (s.pairMask = .pairSet → s.defer = false → s.nmiPending = false → flagI s.f = true →
      ∀ v : Nibble, irq = some v → accepted irq s = some (acceptIrq v s))

/-- Hardware interrupt entry: F as it stands below SP2, then PC below SP1 with Q, I and E cleared, PC = 0100H + v, the core
running, 3 cycles; an NMI takes v = 0 and clears its latch, an IRQ its vector number, and each leaves its acknowledge events
(R308, R310, R331). The 3 cycles are the spec's own decision D17 (assumption 23), the order of the events the model's choice
(assumption 12). -/
def Obligations.HardwareInterruptEntry : Prop :=
  (∀ (v : Nibble) (s : State), kindAt s.cfg (eaSp2 (s.sp2 - 1#8)) = some .ram →
    inRam16 s.cfg (eaSp1 (s.sp1 - 1#8)) = true →
    enterInterrupt v s = .ok { pushed16 (pushed4 s s.f) s.pc with
      pc := BitVec.ofNat 16 (0x0100 + v.toNat), f := packF false false (flagC s.f) (flagZ s.f), run := .run,
      defer := false, cycles := s.cycles + 3 }) ∧
  (∀ s : State, acceptNmi s =
    enterInterrupt 0#4 { s with nmiPending := false, events := .nmiAck :: s.events }) ∧
  ∀ (v : Nibble) (s : State),
    acceptIrq v s = enterInterrupt v { s with events := .vectorRead v :: .irqAck :: s.events }

/-- At a boundary with an input the model does not refuse, reset comes before everything, then an accepted interrupt, then
standby stays as it is; where nothing is offered any more, a latched NMI that can be taken is taken, in RUN and in standby
(R305, R306, R307, R325, R327, R355). One input for each boundary is the model's choice (assumption 8), NMI before IRQ the
spec's own decision D19 (assumption 24), reset at boundaries alone its D21 (assumption 25), that a held-off request does not
end standby its D16 (R327 b, assumption 22); that a latched NMI ends SLEEP whatever `SLEEP_WAKE` lists is the model's choice
(assumption 32). A request in SLEEP from a source that `SLEEP_WAKE` does not list counts as none, at the boundary right after
`SLP` too (assumptions 9 and 34). -/
def Obligations.BoundaryOrder : Prop :=
  (∀ (s : State) (inp : BoundaryInput) (rest : List BoundaryInput), s.inputs = inp :: rest →
    inputRefusal s.cfg inp = none →
    (inp.reset = true → step s = .next (resetEvent (afterInput s))) ∧
    (inp.reset = false →
      (∀ r, accepted (irqLine inp (afterInput s)) (latchNmi inp (afterInput s)) = some r → step s = finish r) ∧
      (accepted (irqLine inp (afterInput s)) (latchNmi inp (afterInput s)) = none → s.run ≠ .run →
        step s = .next (latchNmi inp (afterInput s))))) ∧
  ∀ s : State, s.inputs = [] → s.nmiPending = true → s.pairMask = .pairSet → s.defer = false →
    step s = finish (acceptNmi (afterInput s))

/-- `RETI` right after an entry (hardware or `INT`) restores PC, F and both stack pointers, if the saved F does not lie in the
entry that holds the saved address (R57, R315). That it does so whatever the entry at the restored SP1 holds, over a refill
from unwritten words too, is the spec's own decision D14 (R358, assumption 3). -/
def Obligations.ReturnUndoesEntry : Prop :=
  ∀ (s : State), flagE s.f = false → kindAt s.cfg (eaSp2 (s.sp2 - 1#8)) = some .ram →
    inRam16 s.cfg (eaSp1 (s.sp1 - 1#8)) = true → inRam16 s.cfg (eaSp1 s.sp1) = true →
    eaSp2 (s.sp2 - 1#8) ∉ entry16 (s.sp1 - 1#8) →
    (∀ v : Nibble, ∃ t u : State, enterInterrupt v s = .ok t ∧ exec .reti t = .next u ∧
      u.pc = s.pc ∧ u.f = s.f ∧ u.sp1 = s.sp1 ∧ u.sp2 = s.sp2 ∧ u.defer = true) ∧
    ∀ n : BitVec 6, ∃ t u : State, exec (.intImm6 n) s = .next t ∧ exec .reti t = .next u ∧
      u.pc = nextPc s ∧ u.f = s.f ∧ u.sp1 = s.sp1 ∧ u.sp2 = s.sp2 ∧ u.defer = true

/-- `ResetEvent` gives PC, I, E, the pair mask, `defer`, the run state and the NMI latch the values of R351, and keeps program
memory, data memory and the configuration (R39, R351, R353, R354); STOP is low in reset status (R325, R331, R350); that reset
status holds after every boundary with SR low and after no other is the model's choice (assumption 12). The values it gives
the registers the spec calls undefined are the model's (assumption 1) and not stated. That data memory is kept is the spec's
own decision D14 (R353 b, assumption 25), that `defer` and the NMI latch are cleared an inference the spec marks as its own
(R33, R39, R351, assumption 31). -/
def Obligations.ResetState : Prop :=
  (∀ s t : State, (t = resetEvent s ∨ t = State.reset) →
    t.pc = 0x0110#16 ∧ flagI t.f = false ∧ flagE t.f = false ∧ t.pairMask = .bothUnset ∧ t.defer = false ∧
    t.run = .run ∧ t.nmiPending = false ∧
    (t = resetEvent s → t.prog = s.prog ∧ t.mem = s.mem ∧ t.cfg = s.cfg ∧ t.inputs = s.inputs ∧ pinStop t = false)) ∧
  ∀ s t : State, step s = .next t → (t.inReset = true ↔ (offered s).reset = true)

/-- In HALT and SLEEP every step is a reset that the boundary's input asks for, the entry into an interrupt that it requests
or that is latched, the end of the run, or leaves every register and all of memory as they are, waiting on, with the NMI latch
as the input leaves it (R325 to R327, R357 b): the spec's own decision D16 (assumption 22), with the end of the input list as
the end of the run (assumption 8); that an NMI latched before `SLP` ends SLEEP whatever `SLEEP_WAKE` lists is the model's
choice (assumption 32). A request in SLEEP from a source that `SLEEP_WAKE` does not list counts as none, at the boundary right
after `SLP` too (assumptions 9 and 34). -/
def Obligations.StandbyKeepsState : Prop :=
  (∀ s t : State, s.run ≠ .run → step s = .next t →
    ((offered s).reset = true ∧ t = resetEvent (afterInput s)) ∨
    ((offered s).reset = false ∧
      accepted (irqLine (offered s) (afterInput s)) (latchNmi (offered s) (afterInput s)) = some (.ok t)) ∨
    ((offered s).reset = false ∧ s.inputs ≠ [] ∧
      accepted (irqLine (offered s) (afterInput s)) (latchNmi (offered s) (afterInput s)) = none ∧
      t = { afterInput s with nmiPending := (latchNmi (offered s) (afterInput s)).nmiPending })) ∧
  ∀ s : State, s.run ≠ .run → s.inputs = [] →
    ((s.nmiPending = true → s.pairMask = .pairSet → s.defer = true) ↔ step s = .fault .quiescent)

/-- What each data access answers by what is mounted: RAM and ROM give the word written there or the model fault
`UndefinedRead`, I/O what `io_read` answers, an empty address a model fault; only RAM and I/O take a write, I/O as `io_write`
says; an I/O access changes the peripheral's state and is recorded, and changes nothing else; where the host's tables have
rows they decide, so that a read can give what a write has left (R44, R45, R52, R358). The faults are the spec's own decisions
D10 and D14 (assumptions 2 and 15), the tables and the free values where they have no row the model's choice (assumption
4). -/
def Obligations.DataAccesses : Prop :=
  ∀ (s : State) (a : Addr),
    (kindAt s.cfg a = some .ram ∨ kindAt s.cfg a = some .rom →
      (∀ v, wordAt s a.toNat = some v → readWord s a = .ok (v, s)) ∧
      (wordAt s a.toNat = none → readWord s a = .error (.undefinedRead a))) ∧
    (kindAt s.cfg a = some .io →
      readWord s a = .ok ((ioRead s a).1, { s with
        periph := (ioRead s a).2, events := .ioRead a (ioRead s a).1 :: s.events }) ∧
      ∀ r : IoRow, s.cfg.io.readRow s.periph a = some r → ioRead s a = (r.value, r.after)) ∧
    (kindAt s.cfg a = none → readWord s a = .error (.unmappedRead a)) ∧
    ∀ v : Nibble,
      (kindAt s.cfg a = some .ram → ∃ t, writeWord s a v = .ok t ∧ t = { s with mem := t.mem } ∧
        wordAt t a.toNat = some v ∧ ∀ n, n ≠ a.toNat → wordAt t n = wordAt s n) ∧
      (kindAt s.cfg a = some .io →
        writeWord s a v = .ok { s with periph := ioWrite s a v, events := .ioWrite a v :: s.events } ∧
        ∀ w r : IoRow, s.cfg.io.writeRow s.periph a v = some w → s.cfg.io.readRow w.after a = some r →
          ∃ t u, writeWord s a v = .ok t ∧ readWord t a = .ok (r.value, u) ∧ u.periph = r.after) ∧
      (kindAt s.cfg a = none ∨ kindAt s.cfg a = some .rom → writeWord s a v = .error (.unmappedWrite a))

/-- An address lies in the 16-bit RAM if it and the three after it lie in `RAM16_RANGE` (R42, R45). A 16-bit push stores bits
3 to 0 at the lowest address and bits 15 to 12 at the highest, changes no other word and is read back whole; outside the
16-bit RAM, push and pointer change are the model fault `Stack16OutsideRam16` (R44, R45, R49). The order of the words is the
spec's own decision D1, the fault its D11 (assumptions 15 and 16); that the check looks at the range alone is assumption
26. -/
def Obligations.SixteenBitEntries : Prop :=
  ∀ (s : State) (v : Addr) (p : Byte),
    (eaSp1 p).toNat = 4 * p.toNat ∧ (eaSp2 p).toNat = p.toNat ∧
    (∀ a : Addr, inRam16 s.cfg a = true ↔ s.cfg.ram16Lo ≤ a.toNat ∧ a.toNat + 4 ≤ s.cfg.ram16Hi) ∧
    (inRam16 s.cfg (eaSp1 (s.sp1 - 1#8)) = true → push16 v s = .ok (pushed16 s v)) ∧
    (∀ k : Nat, k < 4 → wordAt (pushed16 s v) (4 * (s.sp1 - 1#8).toNat + k) = some (v.extractLsb' (4 * k) 4)) ∧
    lookup16 (pushed16 s v).mem (eaSp1 (pushed16 s v).sp1).toNat = some v ∧
    (∀ n : Nat, n < 4 * (s.sp1 - 1#8).toNat ∨ 4 * (s.sp1 - 1#8).toNat + 4 ≤ n →
      wordAt (pushed16 s v) n = wordAt s n) ∧
    (inRam16 s.cfg (eaSp1 (s.sp1 - 1#8)) = false →
      push16 v s = .error (.stack16OutsideRam16 (eaSp1 (s.sp1 - 1#8)))) ∧
    (inRam16 s.cfg (eaSp1 p) = false → setSp1 p s = .error (.stack16OutsideRam16 (eaSp1 p)))

/-- The address `[%X]` or `[%Y]` stands for: the index register with E = 0, 0000H + EXT or FF00H + EXT with E = 1, in which
case X and Y have no part in it (R26, R46). -/
def Obligations.ExtendedAddresses : Prop :=
  ∀ s : State,
    (flagE s.f = false → eaInd s .x = s.x ∧ eaInd s .y = s.y) ∧
    (flagE s.f = true → (eaInd s .x).toNat = s.ext.toNat ∧ (eaInd s .y).toNat = 0xFF00 + s.ext.toNat ∧
      ∀ (k j : Idx) (v : Addr), eaInd (s.setIdx j v) k = eaInd s k)

/-- Q holds the entry SP1 points to after every instruction that moves SP1 (RETD, which stores afterwards, apart), and keeps
holding it through every other instruction that stores outside that entry; a store into the entry leaves Q as it was (R30).
That Q is unwritten where the entry is, is the spec's own decision D14 (R358, assumption 3). -/
def Obligations.QueueHoldsTheTopEntry : Prop :=
  (∀ (i : Instr) (s t : State), exec i s = .next t → .q ∈ writtenRegs i → (∀ b, i ≠ .retdImm8 b) →
    t.q = lookup16 t.mem (eaSp1 t.sp1).toNat) ∧
  (∀ (i : Instr) (s t : State), exec i s = .next t → .q ∉ writtenRegs i → t.q = s.q ∧ t.sp1 = s.sp1) ∧
  (∀ (i : Instr) (s t : State), exec i s = .next t → .q ∉ writtenRegs i →
    (∀ a ∈ storedAddresses i s, a ∉ entry16 s.sp1) → s.q = lookup16 s.mem (eaSp1 s.sp1).toNat →
    t.q = lookup16 t.mem (eaSp1 t.sp1).toNat) ∧
  ∀ (b : Byte) (s t : State), exec (.retdImm8 b) s = .next t →
    t.q = lookup16 s.mem (eaSp1 t.sp1).toNat

/-- The NMI latch is set by an edge and absorbs further edges; in SLEEP only a source `SLEEP_WAKE` lists can request; a vector
number 0 or one that `IRQ_SOURCES` does not list is refused (R303, R304, R327 c, R330). The latch is the spec's own decision
D18, the refusal of 0 its D20; that the model filters SLEEP requests, at the boundary right after `SLP` too, and refuses
unlisted numbers, that a request latched before SLEEP stays latched in it, and that an edge offered at the first boundary
after a reset is latched, is the model's choice (assumptions 9, 10, 24, 32, 34 and 35). -/
def Obligations.RequestLines : Prop :=
  (∀ (inp : BoundaryInput) (s : State),
    ((latchNmi inp s).nmiPending = true ↔
      s.nmiPending = true ∨ (inp.nmiEdge = true ∧ (s.run = .sleep → .nmi ∈ s.cfg.sleepWake))) ∧
    latchNmi inp s = { s with nmiPending := (latchNmi inp s).nmiPending } ∧
    ∀ v : Nibble, irqLine inp s = some v ↔ inp.irq = some v ∧ (s.run = .sleep → .irq v ∈ s.cfg.sleepWake)) ∧
  ∀ (s : State) (inp : BoundaryInput) (rest : List BoundaryInput) (v : Nibble), s.inputs = inp :: rest →
    inp.irq = some v →
    (v = 0#4 → step s = .refused .irqVectorZero) ∧
    (v ≠ 0#4 → v ∉ s.cfg.irqSources → step s = .refused (.irqNotASource v))

end
end

