-- ==== Sys2Proof/Laws/Flags.lean ====
section
/-! SUPPORT. The small lemmas of the flag word and of the 4-bit results. -/

namespace Sys2Proof.Machine

@[simp] theorem flagE_packF (e i c z : Bool) : flagE (packF e i c z) = e := by
  cases e <;> cases i <;> cases c <;> cases z <;> rfl

@[simp] theorem flagI_packF (e i c z : Bool) : flagI (packF e i c z) = i := by
  cases e <;> cases i <;> cases c <;> cases z <;> rfl

@[simp] theorem flagC_packF (e i c z : Bool) : flagC (packF e i c z) = c := by
  cases e <;> cases i <;> cases c <;> cases z <;> rfl

@[simp] theorem flagZ_packF (e i c z : Bool) : flagZ (packF e i c z) = z := by
  cases e <;> cases i <;> cases c <;> cases z <;> rfl

/-- F is its four flags. -/
@[simp] theorem packF_flags (f : Nibble) : packF (flagE f) (flagI f) (flagC f) (flagZ f) = f := by
  revert f
  decide

/-- Two flag words with the same flags are the same. -/
theorem flags_ext {f g : Nibble} (he : flagE f = flagE g) (hi : flagI f = flagI g) (hc : flagC f = flagC g)
    (hz : flagZ f = flagZ g) : f = g := by
  rw [← packF_flags f, ← packF_flags g, he, hi, hc, hz]

@[simp] theorem flagE_withCZ (f : Nibble) (c z : Bool) : flagE (withCZ f c z) = flagE f := by simp [withCZ]
@[simp] theorem flagI_withCZ (f : Nibble) (c z : Bool) : flagI (withCZ f c z) = flagI f := by simp [withCZ]
@[simp] theorem flagC_withCZ (f : Nibble) (c z : Bool) : flagC (withCZ f c z) = c := by simp [withCZ]
@[simp] theorem flagZ_withCZ (f : Nibble) (c z : Bool) : flagZ (withCZ f c z) = z := by simp [withCZ]

@[simp] theorem flagE_withZ (f : Nibble) (z : Bool) : flagE (withZ f z) = flagE f := by simp [withZ]
@[simp] theorem flagI_withZ (f : Nibble) (z : Bool) : flagI (withZ f z) = flagI f := by simp [withZ]
@[simp] theorem flagC_withZ (f : Nibble) (z : Bool) : flagC (withZ f z) = flagC f := by simp [withZ]
@[simp] theorem flagZ_withZ (f : Nibble) (z : Bool) : flagZ (withZ f z) = z := by simp [withZ]

@[simp] theorem flagE_withE (f : Nibble) (e : Bool) : flagE (withE f e) = e := by simp [withE]
@[simp] theorem flagI_withE (f : Nibble) (e : Bool) : flagI (withE f e) = flagI f := by simp [withE]
@[simp] theorem flagC_withE (f : Nibble) (e : Bool) : flagC (withE f e) = flagC f := by simp [withE]
@[simp] theorem flagZ_withE (f : Nibble) (e : Bool) : flagZ (withE f e) = flagZ f := by simp [withE]

@[simp] theorem flagE_withI (f : Nibble) (i : Bool) : flagE (withI f i) = flagE f := by simp [withI]
@[simp] theorem flagI_withI (f : Nibble) (i : Bool) : flagI (withI f i) = i := by simp [withI]
@[simp] theorem flagC_withI (f : Nibble) (i : Bool) : flagC (withI f i) = flagC f := by simp [withI]
@[simp] theorem flagZ_withI (f : Nibble) (i : Bool) : flagZ (withI f i) = flagZ f := by simp [withI]

@[simp] theorem aluOut_res (r : Nibble) (c : Bool) : (aluOut r c).res = r := rfl
@[simp] theorem aluOut_c (r : Nibble) (c : Bool) : (aluOut r c).c = c := rfl
@[simp] theorem aluOut_z (r : Nibble) (c : Bool) : (aluOut r c).z = decide (r = 0#4) := rfl

/-- Logic operations answer the old C (R21). -/
@[simp] theorem aluAnd_c (c : Bool) (x y : Nibble) : (aluAnd c x y).c = c := rfl
@[simp] theorem aluOr_c (c : Bool) (x y : Nibble) : (aluOr c x y).c = c := rfl
@[simp] theorem aluXor_c (c : Bool) (x y : Nibble) : (aluXor c x y).c = c := rfl

end Sys2Proof.Machine
end

