-- ==== Sys2Proof/Laws/Memory.lean ====
section
/-! SUPPORT. The laws of the sparse memories: what a read gives after a write, and that every memory operation keeps the
canonical form. -/

namespace Sys2Proof.Machine

variable {α : Type}

@[simp] theorem lookup_nil (a : Nat) : Cells.lookup ([] : List (Nat × α)) a = none := rfl

/-- A read at the address just written gives the value written. -/
@[simp] theorem lookup_insert_same (m : List (Nat × α)) (a : Nat) (v : α) :
    Cells.lookup (Cells.insert m a v) a = some v := by
  induction m with
  | nil => simp [Cells.insert, Cells.lookup]
  | cons p t ih =>
    obtain ⟨k, u⟩ := p
    by_cases h1 : a < k
    · simp [Cells.insert, h1, Cells.lookup]
    · by_cases h2 : a = k
      · simp [Cells.insert, h2, Cells.lookup]
      · have h3 : ¬k = a := fun h => h2 h.symm
        simp [Cells.insert, h1, h2, h3, Cells.lookup, ih]

/-- A read anywhere else gives what it gave before. -/
theorem lookup_insert_other (m : List (Nat × α)) {a b : Nat} (v : α) (h : b ≠ a) :
    Cells.lookup (Cells.insert m a v) b = Cells.lookup m b := by
  have hab : ¬a = b := fun e => h e.symm
  induction m with
  | nil => simp [Cells.insert, Cells.lookup, hab]
  | cons p t ih =>
    obtain ⟨k, u⟩ := p
    by_cases h1 : a < k
    · simp [Cells.insert, h1, Cells.lookup, hab]
    · by_cases h2 : a = k
      · subst h2
        simp [Cells.insert, Cells.lookup, hab]
      · simp [Cells.insert, h1, h2, Cells.lookup, ih]

theorem lookup_insert (m : List (Nat × α)) (a b : Nat) (v : α) :
    Cells.lookup (Cells.insert m a v) b = if b = a then some v else Cells.lookup m b := by
  by_cases h : b = a
  · simp [h]
  · simp [h, lookup_insert_other m v h]

/-- A list that rises from a higher address rises from a lower one. -/
theorem risingFrom_mono {m : List (Nat × α)} {lo lo' : Nat} (h : lo' ≤ lo) (hm : Cells.risingFrom lo m = true) :
    Cells.risingFrom lo' m = true := by
  cases m with
  | nil => rfl
  | cons p t =>
    obtain ⟨k, u⟩ := p
    simp only [Cells.risingFrom, Bool.and_eq_true, decide_eq_true_eq] at hm ⊢
    exact ⟨⟨by omega, hm.1.2⟩, hm.2⟩

/-- Writing inside the address space keeps the addresses rising. -/
theorem risingFrom_insert {m : List (Nat × α)} {lo a : Nat} (v : α) (hm : Cells.risingFrom lo m = true) (hlo : lo ≤ a)
    (ha : a < 65536) : Cells.risingFrom lo (Cells.insert m a v) = true := by
  induction m generalizing lo with
  | nil => simp [Cells.insert, Cells.risingFrom, hlo, ha]
  | cons p t ih =>
    obtain ⟨k, u⟩ := p
    simp only [Cells.risingFrom, Bool.and_eq_true, decide_eq_true_eq] at hm
    by_cases h1 : a < k
    · simp only [Cells.insert, h1, if_true, Cells.risingFrom, Bool.and_eq_true, decide_eq_true_eq]
      exact ⟨⟨hlo, ha⟩, ⟨by omega, hm.1.2⟩, hm.2⟩
    · by_cases h2 : a = k
      · simp only [Cells.insert, h2, Nat.lt_irrefl, if_false, if_true, Cells.risingFrom, Bool.and_eq_true,
          decide_eq_true_eq]
        exact ⟨hm.1, hm.2⟩
      · simp only [Cells.insert, h1, h2, if_false, Cells.risingFrom, Bool.and_eq_true, decide_eq_true_eq]
        exact ⟨hm.1, ih hm.2 (by omega)⟩

/-- A 4-bit write keeps data memory canonical. -/
theorem memory_insert_wf {m : Memory} (a : Addr) (v : Nibble) (hm : Memory.wf m = true) :
    Memory.wf (Cells.insert m a.toNat v) = true :=
  risingFrom_insert v hm (Nat.zero_le _) a.isLt

/-- A program word placed at an address keeps program memory canonical. -/
theorem program_insert_wf {p : ProgramMemory} (a : Addr) (w : PWord) (hp : ProgramMemory.wf p = true) :
    ProgramMemory.wf (Cells.insert p a.toNat w) = true :=
  risingFrom_insert w hp (Nat.zero_le _) a.isLt

/-- A 16-bit write keeps data memory canonical. -/
theorem memory_insert16_wf {m : Memory} {a : Nat} (v : Addr) (ha : a + 3 < 65536) (hm : Memory.wf m = true) :
    Memory.wf (insert16 m a v) = true :=
  risingFrom_insert _ (risingFrom_insert _ (risingFrom_insert _ (risingFrom_insert _ hm (Nat.zero_le _) (by omega))
    (Nat.zero_le _) (by omega)) (Nat.zero_le _) (by omega)) (Nat.zero_le _) ha

/-- An SP1 entry lies inside the first 1024 words (R28). -/
theorem eaSp1_toNat (p : Byte) : (eaSp1 p).toNat = p.toNat * 4 := by
  have := p.isLt
  simp only [eaSp1, BitVec.toNat_ofNat]
  omega

/-- An SP2 entry lies inside the first 256 words (R29). -/
theorem eaSp2_toNat (p : Byte) : (eaSp2 p).toNat = p.toNat := by
  have := p.isLt
  simp only [eaSp2, BitVec.toNat_ofNat]
  omega

/-- The four digits of a 16-bit value put together again. -/
theorem digits_append (v : Addr) : digit v 3 ++ digit v 2 ++ digit v 1 ++ digit v 0 = v := by
  ext i hi
  simp only [digit, BitVec.getElem_append, BitVec.getElem_extractLsb']
  split_ifs <;> (rw [← BitVec.getLsbD_eq_getElem]; congr 1; omega)

/-- Digit `k` of a 16-bit write stands at address `a + k` (R45, D1). -/
theorem lookup_insert16_digit (m : Memory) (a : Nat) (v : Addr) (k : Nat) (hk : k < 4) :
    Cells.lookup (insert16 m a v) (a + k) = some (digit v k) := by
  have : k = 0 ∨ k = 1 ∨ k = 2 ∨ k = 3 := by omega
  rcases this with rfl | rfl | rfl | rfl <;> simp [insert16, lookup_insert]

/-- A 16-bit write changes no word outside its four. -/
theorem lookup_insert16_other (m : Memory) (a b : Nat) (v : Addr) (h : b < a ∨ a + 3 < b) :
    Cells.lookup (insert16 m a v) b = Cells.lookup m b := by
  have h0 : ¬b = a := by omega
  have h1 : ¬b = a + 1 := by omega
  have h2 : ¬b = a + 2 := by omega
  have h3 : ¬b = a + 3 := by omega
  simp [insert16, lookup_insert, h0, h1, h2, h3]

/-- A 16-bit read of an entry just written gives the value written (R44, R45). -/
@[simp] theorem lookup16_insert16 (m : Memory) (a : Nat) (v : Addr) : lookup16 (insert16 m a v) a = some v := by
  have h0 := lookup_insert16_digit m a v 0 (by omega)
  have h1 := lookup_insert16_digit m a v 1 (by omega)
  have h2 := lookup_insert16_digit m a v 2 (by omega)
  have h3 := lookup_insert16_digit m a v 3 (by omega)
  simp only [Nat.add_zero] at h0
  simp only [lookup16, h0, h1, h2, h3, Option.some.injEq]
  exact digits_append v

end Sys2Proof.Machine
end

