-- ==== Sys2Proof/Laws/State.lean ====
section
/-! SUPPORT. One lemma per field of State and named update, so that no proof unfolds a record update. -/

namespace Sys2Proof.Machine

/-! ### State.setReg -/

@[simp] theorem setReg_a_a (s : State) (v : Nibble) : (s.setReg .a v).a = v := rfl
@[simp] theorem setReg_a_b (s : State) (v : Nibble) : (s.setReg .a v).b = s.b := rfl
@[simp] theorem setReg_b_a (s : State) (v : Nibble) : (s.setReg .b v).a = s.a := rfl
@[simp] theorem setReg_b_b (s : State) (v : Nibble) : (s.setReg .b v).b = v := rfl
@[simp] theorem setReg_x (s : State) (r : Reg) (v : Nibble) : (s.setReg r v).x = s.x := by cases r <;> rfl
@[simp] theorem setReg_y (s : State) (r : Reg) (v : Nibble) : (s.setReg r v).y = s.y := by cases r <;> rfl
@[simp] theorem setReg_ext (s : State) (r : Reg) (v : Nibble) : (s.setReg r v).ext = s.ext := by cases r <;> rfl
@[simp] theorem setReg_pc (s : State) (r : Reg) (v : Nibble) : (s.setReg r v).pc = s.pc := by cases r <;> rfl
@[simp] theorem setReg_sp1 (s : State) (r : Reg) (v : Nibble) : (s.setReg r v).sp1 = s.sp1 := by cases r <;> rfl
@[simp] theorem setReg_sp2 (s : State) (r : Reg) (v : Nibble) : (s.setReg r v).sp2 = s.sp2 := by cases r <;> rfl
@[simp] theorem setReg_f (s : State) (r : Reg) (v : Nibble) : (s.setReg r v).f = s.f := by cases r <;> rfl
@[simp] theorem setReg_q (s : State) (r : Reg) (v : Nibble) : (s.setReg r v).q = s.q := by cases r <;> rfl
@[simp] theorem setReg_pairMask (s : State) (r : Reg) (v : Nibble) : (s.setReg r v).pairMask = s.pairMask := by cases r <;> rfl
@[simp] theorem setReg_defer (s : State) (r : Reg) (v : Nibble) : (s.setReg r v).defer = s.defer := by cases r <;> rfl
@[simp] theorem setReg_run (s : State) (r : Reg) (v : Nibble) : (s.setReg r v).run = s.run := by cases r <;> rfl
@[simp] theorem setReg_nmiPending (s : State) (r : Reg) (v : Nibble) : (s.setReg r v).nmiPending = s.nmiPending := by cases r <;> rfl
@[simp] theorem setReg_inReset (s : State) (r : Reg) (v : Nibble) : (s.setReg r v).inReset = s.inReset := by cases r <;> rfl
@[simp] theorem setReg_prog (s : State) (r : Reg) (v : Nibble) : (s.setReg r v).prog = s.prog := by cases r <;> rfl
@[simp] theorem setReg_mem (s : State) (r : Reg) (v : Nibble) : (s.setReg r v).mem = s.mem := by cases r <;> rfl
@[simp] theorem setReg_cfg (s : State) (r : Reg) (v : Nibble) : (s.setReg r v).cfg = s.cfg := by cases r <;> rfl
@[simp] theorem setReg_inputs (s : State) (r : Reg) (v : Nibble) : (s.setReg r v).inputs = s.inputs := by cases r <;> rfl
@[simp] theorem setReg_events (s : State) (r : Reg) (v : Nibble) : (s.setReg r v).events = s.events := by cases r <;> rfl
@[simp] theorem setReg_periph (s : State) (r : Reg) (v : Nibble) : (s.setReg r v).periph = s.periph := by cases r <;> rfl
@[simp] theorem setReg_cycles (s : State) (r : Reg) (v : Nibble) : (s.setReg r v).cycles = s.cycles := by cases r <;> rfl
@[simp] theorem setReg_reg_same (s : State) (r : Reg) (v : Nibble) : (s.setReg r v).reg r = v := by cases r <;> rfl
@[simp] theorem setReg_idx (s : State) (r : Reg) (v : Nibble) (j : Idx) : (s.setReg r v).idx j = s.idx j := by cases r <;> cases j <;> rfl

/-! ### State.setIdx -/

@[simp] theorem setIdx_x_x (s : State) (v : Addr) : (s.setIdx .x v).x = v := rfl
@[simp] theorem setIdx_x_y (s : State) (v : Addr) : (s.setIdx .x v).y = s.y := rfl
@[simp] theorem setIdx_y_x (s : State) (v : Addr) : (s.setIdx .y v).x = s.x := rfl
@[simp] theorem setIdx_y_y (s : State) (v : Addr) : (s.setIdx .y v).y = v := rfl
@[simp] theorem setIdx_a (s : State) (r : Idx) (v : Addr) : (s.setIdx r v).a = s.a := by cases r <;> rfl
@[simp] theorem setIdx_b (s : State) (r : Idx) (v : Addr) : (s.setIdx r v).b = s.b := by cases r <;> rfl
@[simp] theorem setIdx_ext (s : State) (r : Idx) (v : Addr) : (s.setIdx r v).ext = s.ext := by cases r <;> rfl
@[simp] theorem setIdx_pc (s : State) (r : Idx) (v : Addr) : (s.setIdx r v).pc = s.pc := by cases r <;> rfl
@[simp] theorem setIdx_sp1 (s : State) (r : Idx) (v : Addr) : (s.setIdx r v).sp1 = s.sp1 := by cases r <;> rfl
@[simp] theorem setIdx_sp2 (s : State) (r : Idx) (v : Addr) : (s.setIdx r v).sp2 = s.sp2 := by cases r <;> rfl
@[simp] theorem setIdx_f (s : State) (r : Idx) (v : Addr) : (s.setIdx r v).f = s.f := by cases r <;> rfl
@[simp] theorem setIdx_q (s : State) (r : Idx) (v : Addr) : (s.setIdx r v).q = s.q := by cases r <;> rfl
@[simp] theorem setIdx_pairMask (s : State) (r : Idx) (v : Addr) : (s.setIdx r v).pairMask = s.pairMask := by cases r <;> rfl
@[simp] theorem setIdx_defer (s : State) (r : Idx) (v : Addr) : (s.setIdx r v).defer = s.defer := by cases r <;> rfl
@[simp] theorem setIdx_run (s : State) (r : Idx) (v : Addr) : (s.setIdx r v).run = s.run := by cases r <;> rfl
@[simp] theorem setIdx_nmiPending (s : State) (r : Idx) (v : Addr) : (s.setIdx r v).nmiPending = s.nmiPending := by cases r <;> rfl
@[simp] theorem setIdx_inReset (s : State) (r : Idx) (v : Addr) : (s.setIdx r v).inReset = s.inReset := by cases r <;> rfl
@[simp] theorem setIdx_prog (s : State) (r : Idx) (v : Addr) : (s.setIdx r v).prog = s.prog := by cases r <;> rfl
@[simp] theorem setIdx_mem (s : State) (r : Idx) (v : Addr) : (s.setIdx r v).mem = s.mem := by cases r <;> rfl
@[simp] theorem setIdx_cfg (s : State) (r : Idx) (v : Addr) : (s.setIdx r v).cfg = s.cfg := by cases r <;> rfl
@[simp] theorem setIdx_inputs (s : State) (r : Idx) (v : Addr) : (s.setIdx r v).inputs = s.inputs := by cases r <;> rfl
@[simp] theorem setIdx_events (s : State) (r : Idx) (v : Addr) : (s.setIdx r v).events = s.events := by cases r <;> rfl
@[simp] theorem setIdx_periph (s : State) (r : Idx) (v : Addr) : (s.setIdx r v).periph = s.periph := by cases r <;> rfl
@[simp] theorem setIdx_cycles (s : State) (r : Idx) (v : Addr) : (s.setIdx r v).cycles = s.cycles := by cases r <;> rfl
@[simp] theorem setIdx_idx_same (s : State) (r : Idx) (v : Addr) : (s.setIdx r v).idx r = v := by cases r <;> rfl
@[simp] theorem setIdx_reg (s : State) (r : Idx) (v : Addr) (j : Reg) : (s.setIdx r v).reg j = s.reg j := by cases r <;> cases j <;> rfl

/-! ### State.bump -/

@[simp] theorem bump_a (s : State) (i : Idx) (n : Addr) : (s.bump i n).a = s.a := by cases i <;> rfl
@[simp] theorem bump_b (s : State) (i : Idx) (n : Addr) : (s.bump i n).b = s.b := by cases i <;> rfl
@[simp] theorem bump_ext (s : State) (i : Idx) (n : Addr) : (s.bump i n).ext = s.ext := by cases i <;> rfl
@[simp] theorem bump_pc (s : State) (i : Idx) (n : Addr) : (s.bump i n).pc = s.pc := by cases i <;> rfl
@[simp] theorem bump_sp1 (s : State) (i : Idx) (n : Addr) : (s.bump i n).sp1 = s.sp1 := by cases i <;> rfl
@[simp] theorem bump_sp2 (s : State) (i : Idx) (n : Addr) : (s.bump i n).sp2 = s.sp2 := by cases i <;> rfl
@[simp] theorem bump_f (s : State) (i : Idx) (n : Addr) : (s.bump i n).f = s.f := by cases i <;> rfl
@[simp] theorem bump_q (s : State) (i : Idx) (n : Addr) : (s.bump i n).q = s.q := by cases i <;> rfl
@[simp] theorem bump_pairMask (s : State) (i : Idx) (n : Addr) : (s.bump i n).pairMask = s.pairMask := by cases i <;> rfl
@[simp] theorem bump_defer (s : State) (i : Idx) (n : Addr) : (s.bump i n).defer = s.defer := by cases i <;> rfl
@[simp] theorem bump_run (s : State) (i : Idx) (n : Addr) : (s.bump i n).run = s.run := by cases i <;> rfl
@[simp] theorem bump_nmiPending (s : State) (i : Idx) (n : Addr) : (s.bump i n).nmiPending = s.nmiPending := by cases i <;> rfl
@[simp] theorem bump_inReset (s : State) (i : Idx) (n : Addr) : (s.bump i n).inReset = s.inReset := by cases i <;> rfl
@[simp] theorem bump_prog (s : State) (i : Idx) (n : Addr) : (s.bump i n).prog = s.prog := by cases i <;> rfl
@[simp] theorem bump_mem (s : State) (i : Idx) (n : Addr) : (s.bump i n).mem = s.mem := by cases i <;> rfl
@[simp] theorem bump_cfg (s : State) (i : Idx) (n : Addr) : (s.bump i n).cfg = s.cfg := by cases i <;> rfl
@[simp] theorem bump_inputs (s : State) (i : Idx) (n : Addr) : (s.bump i n).inputs = s.inputs := by cases i <;> rfl
@[simp] theorem bump_events (s : State) (i : Idx) (n : Addr) : (s.bump i n).events = s.events := by cases i <;> rfl
@[simp] theorem bump_periph (s : State) (i : Idx) (n : Addr) : (s.bump i n).periph = s.periph := by cases i <;> rfl
@[simp] theorem bump_cycles (s : State) (i : Idx) (n : Addr) : (s.bump i n).cycles = s.cycles := by cases i <;> rfl
@[simp] theorem bump_x_x (s : State) (n : Addr) : (s.bump .x n).x = s.x + n := rfl
@[simp] theorem bump_x_y (s : State) (n : Addr) : (s.bump .x n).y = s.y := rfl
@[simp] theorem bump_y_x (s : State) (n : Addr) : (s.bump .y n).x = s.x := rfl
@[simp] theorem bump_y_y (s : State) (n : Addr) : (s.bump .y n).y = s.y + n := rfl
@[simp] theorem bump_reg (s : State) (i : Idx) (n : Addr) (r : Reg) : (s.bump i n).reg r = s.reg r := by cases i <;> cases r <;> rfl
@[simp] theorem bump_idx_same (s : State) (i : Idx) (n : Addr) : (s.bump i n).idx i = s.idx i + n := by cases i <;> rfl

/-! ### State.setBA -/

@[simp] theorem setBA_a (s : State) (v : Byte) : (s.setBA v).a = v.extractLsb' 0 4 := rfl
@[simp] theorem setBA_b (s : State) (v : Byte) : (s.setBA v).b = v.extractLsb' 4 4 := rfl
@[simp] theorem setBA_x (s : State) (v : Byte) : (s.setBA v).x = s.x := rfl
@[simp] theorem setBA_y (s : State) (v : Byte) : (s.setBA v).y = s.y := rfl
@[simp] theorem setBA_ext (s : State) (v : Byte) : (s.setBA v).ext = s.ext := rfl
@[simp] theorem setBA_pc (s : State) (v : Byte) : (s.setBA v).pc = s.pc := rfl
@[simp] theorem setBA_sp1 (s : State) (v : Byte) : (s.setBA v).sp1 = s.sp1 := rfl
@[simp] theorem setBA_sp2 (s : State) (v : Byte) : (s.setBA v).sp2 = s.sp2 := rfl
@[simp] theorem setBA_f (s : State) (v : Byte) : (s.setBA v).f = s.f := rfl
@[simp] theorem setBA_q (s : State) (v : Byte) : (s.setBA v).q = s.q := rfl
@[simp] theorem setBA_pairMask (s : State) (v : Byte) : (s.setBA v).pairMask = s.pairMask := rfl
@[simp] theorem setBA_defer (s : State) (v : Byte) : (s.setBA v).defer = s.defer := rfl
@[simp] theorem setBA_run (s : State) (v : Byte) : (s.setBA v).run = s.run := rfl
@[simp] theorem setBA_nmiPending (s : State) (v : Byte) : (s.setBA v).nmiPending = s.nmiPending := rfl
@[simp] theorem setBA_inReset (s : State) (v : Byte) : (s.setBA v).inReset = s.inReset := rfl
@[simp] theorem setBA_prog (s : State) (v : Byte) : (s.setBA v).prog = s.prog := rfl
@[simp] theorem setBA_mem (s : State) (v : Byte) : (s.setBA v).mem = s.mem := rfl
@[simp] theorem setBA_cfg (s : State) (v : Byte) : (s.setBA v).cfg = s.cfg := rfl
@[simp] theorem setBA_inputs (s : State) (v : Byte) : (s.setBA v).inputs = s.inputs := rfl
@[simp] theorem setBA_events (s : State) (v : Byte) : (s.setBA v).events = s.events := rfl
@[simp] theorem setBA_periph (s : State) (v : Byte) : (s.setBA v).periph = s.periph := rfl
@[simp] theorem setBA_cycles (s : State) (v : Byte) : (s.setBA v).cycles = s.cycles := rfl
@[simp] theorem setBA_idx (s : State) (v : Byte) (i : Idx) : (s.setBA v).idx i = s.idx i := by cases i <;> rfl

/-! ### State.setF -/

@[simp] theorem setF_a (s : State) (v : Nibble) : (s.setF v).a = s.a := rfl
@[simp] theorem setF_b (s : State) (v : Nibble) : (s.setF v).b = s.b := rfl
@[simp] theorem setF_x (s : State) (v : Nibble) : (s.setF v).x = s.x := rfl
@[simp] theorem setF_y (s : State) (v : Nibble) : (s.setF v).y = s.y := rfl
@[simp] theorem setF_ext (s : State) (v : Nibble) : (s.setF v).ext = s.ext := rfl
@[simp] theorem setF_pc (s : State) (v : Nibble) : (s.setF v).pc = s.pc := rfl
@[simp] theorem setF_sp1 (s : State) (v : Nibble) : (s.setF v).sp1 = s.sp1 := rfl
@[simp] theorem setF_sp2 (s : State) (v : Nibble) : (s.setF v).sp2 = s.sp2 := rfl
@[simp] theorem setF_f (s : State) (v : Nibble) : (s.setF v).f = v := rfl
@[simp] theorem setF_q (s : State) (v : Nibble) : (s.setF v).q = s.q := rfl
@[simp] theorem setF_pairMask (s : State) (v : Nibble) : (s.setF v).pairMask = s.pairMask := rfl
@[simp] theorem setF_defer (s : State) (v : Nibble) : (s.setF v).defer = s.defer := rfl
@[simp] theorem setF_run (s : State) (v : Nibble) : (s.setF v).run = s.run := rfl
@[simp] theorem setF_nmiPending (s : State) (v : Nibble) : (s.setF v).nmiPending = s.nmiPending := rfl
@[simp] theorem setF_inReset (s : State) (v : Nibble) : (s.setF v).inReset = s.inReset := rfl
@[simp] theorem setF_prog (s : State) (v : Nibble) : (s.setF v).prog = s.prog := rfl
@[simp] theorem setF_mem (s : State) (v : Nibble) : (s.setF v).mem = s.mem := rfl
@[simp] theorem setF_cfg (s : State) (v : Nibble) : (s.setF v).cfg = s.cfg := rfl
@[simp] theorem setF_inputs (s : State) (v : Nibble) : (s.setF v).inputs = s.inputs := rfl
@[simp] theorem setF_events (s : State) (v : Nibble) : (s.setF v).events = s.events := rfl
@[simp] theorem setF_periph (s : State) (v : Nibble) : (s.setF v).periph = s.periph := rfl
@[simp] theorem setF_cycles (s : State) (v : Nibble) : (s.setF v).cycles = s.cycles := rfl
@[simp] theorem setF_reg (s : State) (v : Nibble) (r : Reg) : (s.setF v).reg r = s.reg r := by cases r <;> rfl
@[simp] theorem setF_idx (s : State) (v : Nibble) (i : Idx) : (s.setF v).idx i = s.idx i := by cases i <;> rfl

/-! ### State.setCZ -/

@[simp] theorem setCZ_a (s : State) (c z : Bool) : (s.setCZ c z).a = s.a := rfl
@[simp] theorem setCZ_b (s : State) (c z : Bool) : (s.setCZ c z).b = s.b := rfl
@[simp] theorem setCZ_x (s : State) (c z : Bool) : (s.setCZ c z).x = s.x := rfl
@[simp] theorem setCZ_y (s : State) (c z : Bool) : (s.setCZ c z).y = s.y := rfl
@[simp] theorem setCZ_ext (s : State) (c z : Bool) : (s.setCZ c z).ext = s.ext := rfl
@[simp] theorem setCZ_pc (s : State) (c z : Bool) : (s.setCZ c z).pc = s.pc := rfl
@[simp] theorem setCZ_sp1 (s : State) (c z : Bool) : (s.setCZ c z).sp1 = s.sp1 := rfl
@[simp] theorem setCZ_sp2 (s : State) (c z : Bool) : (s.setCZ c z).sp2 = s.sp2 := rfl
@[simp] theorem setCZ_f (s : State) (c z : Bool) : (s.setCZ c z).f = withCZ s.f c z := rfl
@[simp] theorem setCZ_q (s : State) (c z : Bool) : (s.setCZ c z).q = s.q := rfl
@[simp] theorem setCZ_pairMask (s : State) (c z : Bool) : (s.setCZ c z).pairMask = s.pairMask := rfl
@[simp] theorem setCZ_defer (s : State) (c z : Bool) : (s.setCZ c z).defer = s.defer := rfl
@[simp] theorem setCZ_run (s : State) (c z : Bool) : (s.setCZ c z).run = s.run := rfl
@[simp] theorem setCZ_nmiPending (s : State) (c z : Bool) : (s.setCZ c z).nmiPending = s.nmiPending := rfl
@[simp] theorem setCZ_inReset (s : State) (c z : Bool) : (s.setCZ c z).inReset = s.inReset := rfl
@[simp] theorem setCZ_prog (s : State) (c z : Bool) : (s.setCZ c z).prog = s.prog := rfl
@[simp] theorem setCZ_mem (s : State) (c z : Bool) : (s.setCZ c z).mem = s.mem := rfl
@[simp] theorem setCZ_cfg (s : State) (c z : Bool) : (s.setCZ c z).cfg = s.cfg := rfl
@[simp] theorem setCZ_inputs (s : State) (c z : Bool) : (s.setCZ c z).inputs = s.inputs := rfl
@[simp] theorem setCZ_events (s : State) (c z : Bool) : (s.setCZ c z).events = s.events := rfl
@[simp] theorem setCZ_periph (s : State) (c z : Bool) : (s.setCZ c z).periph = s.periph := rfl
@[simp] theorem setCZ_cycles (s : State) (c z : Bool) : (s.setCZ c z).cycles = s.cycles := rfl
@[simp] theorem setCZ_reg (s : State) (c z : Bool) (r : Reg) : (s.setCZ c z).reg r = s.reg r := by cases r <;> rfl
@[simp] theorem setCZ_idx (s : State) (c z : Bool) (i : Idx) : (s.setCZ c z).idx i = s.idx i := by cases i <;> rfl

/-! ### State.setZ -/

@[simp] theorem setZ_a (s : State) (z : Bool) : (s.setZ z).a = s.a := rfl
@[simp] theorem setZ_b (s : State) (z : Bool) : (s.setZ z).b = s.b := rfl
@[simp] theorem setZ_x (s : State) (z : Bool) : (s.setZ z).x = s.x := rfl
@[simp] theorem setZ_y (s : State) (z : Bool) : (s.setZ z).y = s.y := rfl
@[simp] theorem setZ_ext (s : State) (z : Bool) : (s.setZ z).ext = s.ext := rfl
@[simp] theorem setZ_pc (s : State) (z : Bool) : (s.setZ z).pc = s.pc := rfl
@[simp] theorem setZ_sp1 (s : State) (z : Bool) : (s.setZ z).sp1 = s.sp1 := rfl
@[simp] theorem setZ_sp2 (s : State) (z : Bool) : (s.setZ z).sp2 = s.sp2 := rfl
@[simp] theorem setZ_f (s : State) (z : Bool) : (s.setZ z).f = withZ s.f z := rfl
@[simp] theorem setZ_q (s : State) (z : Bool) : (s.setZ z).q = s.q := rfl
@[simp] theorem setZ_pairMask (s : State) (z : Bool) : (s.setZ z).pairMask = s.pairMask := rfl
@[simp] theorem setZ_defer (s : State) (z : Bool) : (s.setZ z).defer = s.defer := rfl
@[simp] theorem setZ_run (s : State) (z : Bool) : (s.setZ z).run = s.run := rfl
@[simp] theorem setZ_nmiPending (s : State) (z : Bool) : (s.setZ z).nmiPending = s.nmiPending := rfl
@[simp] theorem setZ_inReset (s : State) (z : Bool) : (s.setZ z).inReset = s.inReset := rfl
@[simp] theorem setZ_prog (s : State) (z : Bool) : (s.setZ z).prog = s.prog := rfl
@[simp] theorem setZ_mem (s : State) (z : Bool) : (s.setZ z).mem = s.mem := rfl
@[simp] theorem setZ_cfg (s : State) (z : Bool) : (s.setZ z).cfg = s.cfg := rfl
@[simp] theorem setZ_inputs (s : State) (z : Bool) : (s.setZ z).inputs = s.inputs := rfl
@[simp] theorem setZ_events (s : State) (z : Bool) : (s.setZ z).events = s.events := rfl
@[simp] theorem setZ_periph (s : State) (z : Bool) : (s.setZ z).periph = s.periph := rfl
@[simp] theorem setZ_cycles (s : State) (z : Bool) : (s.setZ z).cycles = s.cycles := rfl
@[simp] theorem setZ_reg (s : State) (z : Bool) (r : Reg) : (s.setZ z).reg r = s.reg r := by cases r <;> rfl
@[simp] theorem setZ_idx (s : State) (z : Bool) (i : Idx) : (s.setZ z).idx i = s.idx i := by cases i <;> rfl

/-! ### State.setMem -/

@[simp] theorem setMem_a (s : State) (m : Memory) : (s.setMem m).a = s.a := rfl
@[simp] theorem setMem_b (s : State) (m : Memory) : (s.setMem m).b = s.b := rfl
@[simp] theorem setMem_x (s : State) (m : Memory) : (s.setMem m).x = s.x := rfl
@[simp] theorem setMem_y (s : State) (m : Memory) : (s.setMem m).y = s.y := rfl
@[simp] theorem setMem_ext (s : State) (m : Memory) : (s.setMem m).ext = s.ext := rfl
@[simp] theorem setMem_pc (s : State) (m : Memory) : (s.setMem m).pc = s.pc := rfl
@[simp] theorem setMem_sp1 (s : State) (m : Memory) : (s.setMem m).sp1 = s.sp1 := rfl
@[simp] theorem setMem_sp2 (s : State) (m : Memory) : (s.setMem m).sp2 = s.sp2 := rfl
@[simp] theorem setMem_f (s : State) (m : Memory) : (s.setMem m).f = s.f := rfl
@[simp] theorem setMem_q (s : State) (m : Memory) : (s.setMem m).q = s.q := rfl
@[simp] theorem setMem_pairMask (s : State) (m : Memory) : (s.setMem m).pairMask = s.pairMask := rfl
@[simp] theorem setMem_defer (s : State) (m : Memory) : (s.setMem m).defer = s.defer := rfl
@[simp] theorem setMem_run (s : State) (m : Memory) : (s.setMem m).run = s.run := rfl
@[simp] theorem setMem_nmiPending (s : State) (m : Memory) : (s.setMem m).nmiPending = s.nmiPending := rfl
@[simp] theorem setMem_inReset (s : State) (m : Memory) : (s.setMem m).inReset = s.inReset := rfl
@[simp] theorem setMem_prog (s : State) (m : Memory) : (s.setMem m).prog = s.prog := rfl
@[simp] theorem setMem_mem (s : State) (m : Memory) : (s.setMem m).mem = m := rfl
@[simp] theorem setMem_cfg (s : State) (m : Memory) : (s.setMem m).cfg = s.cfg := rfl
@[simp] theorem setMem_inputs (s : State) (m : Memory) : (s.setMem m).inputs = s.inputs := rfl
@[simp] theorem setMem_events (s : State) (m : Memory) : (s.setMem m).events = s.events := rfl
@[simp] theorem setMem_periph (s : State) (m : Memory) : (s.setMem m).periph = s.periph := rfl
@[simp] theorem setMem_cycles (s : State) (m : Memory) : (s.setMem m).cycles = s.cycles := rfl
@[simp] theorem setMem_reg (s : State) (m : Memory) (r : Reg) : (s.setMem m).reg r = s.reg r := by cases r <;> rfl
@[simp] theorem setMem_idx (s : State) (m : Memory) (i : Idx) : (s.setMem m).idx i = s.idx i := by cases i <;> rfl

/-! ### State.emit -/

@[simp] theorem emit_a (s : State) (e : Event) : (s.emit e).a = s.a := rfl
@[simp] theorem emit_b (s : State) (e : Event) : (s.emit e).b = s.b := rfl
@[simp] theorem emit_x (s : State) (e : Event) : (s.emit e).x = s.x := rfl
@[simp] theorem emit_y (s : State) (e : Event) : (s.emit e).y = s.y := rfl
@[simp] theorem emit_ext (s : State) (e : Event) : (s.emit e).ext = s.ext := rfl
@[simp] theorem emit_pc (s : State) (e : Event) : (s.emit e).pc = s.pc := rfl
@[simp] theorem emit_sp1 (s : State) (e : Event) : (s.emit e).sp1 = s.sp1 := rfl
@[simp] theorem emit_sp2 (s : State) (e : Event) : (s.emit e).sp2 = s.sp2 := rfl
@[simp] theorem emit_f (s : State) (e : Event) : (s.emit e).f = s.f := rfl
@[simp] theorem emit_q (s : State) (e : Event) : (s.emit e).q = s.q := rfl
@[simp] theorem emit_pairMask (s : State) (e : Event) : (s.emit e).pairMask = s.pairMask := rfl
@[simp] theorem emit_defer (s : State) (e : Event) : (s.emit e).defer = s.defer := rfl
@[simp] theorem emit_run (s : State) (e : Event) : (s.emit e).run = s.run := rfl
@[simp] theorem emit_nmiPending (s : State) (e : Event) : (s.emit e).nmiPending = s.nmiPending := rfl
@[simp] theorem emit_inReset (s : State) (e : Event) : (s.emit e).inReset = s.inReset := rfl
@[simp] theorem emit_prog (s : State) (e : Event) : (s.emit e).prog = s.prog := rfl
@[simp] theorem emit_mem (s : State) (e : Event) : (s.emit e).mem = s.mem := rfl
@[simp] theorem emit_cfg (s : State) (e : Event) : (s.emit e).cfg = s.cfg := rfl
@[simp] theorem emit_inputs (s : State) (e : Event) : (s.emit e).inputs = s.inputs := rfl
@[simp] theorem emit_events (s : State) (e : Event) : (s.emit e).events = e :: s.events := rfl
@[simp] theorem emit_periph (s : State) (e : Event) : (s.emit e).periph = s.periph := rfl
@[simp] theorem emit_cycles (s : State) (e : Event) : (s.emit e).cycles = s.cycles := rfl
@[simp] theorem emit_reg (s : State) (e : Event) (r : Reg) : (s.emit e).reg r = s.reg r := by cases r <;> rfl
@[simp] theorem emit_idx (s : State) (e : Event) (i : Idx) : (s.emit e).idx i = s.idx i := by cases i <;> rfl

/-! ### State.retireTo -/

@[simp] theorem retireTo_a (s : State) (n : Nat) (p : Addr) : (s.retireTo n p).a = s.a := rfl
@[simp] theorem retireTo_b (s : State) (n : Nat) (p : Addr) : (s.retireTo n p).b = s.b := rfl
@[simp] theorem retireTo_x (s : State) (n : Nat) (p : Addr) : (s.retireTo n p).x = s.x := rfl
@[simp] theorem retireTo_y (s : State) (n : Nat) (p : Addr) : (s.retireTo n p).y = s.y := rfl
@[simp] theorem retireTo_ext (s : State) (n : Nat) (p : Addr) : (s.retireTo n p).ext = s.ext := rfl
@[simp] theorem retireTo_pc (s : State) (n : Nat) (p : Addr) : (s.retireTo n p).pc = p := rfl
@[simp] theorem retireTo_sp1 (s : State) (n : Nat) (p : Addr) : (s.retireTo n p).sp1 = s.sp1 := rfl
@[simp] theorem retireTo_sp2 (s : State) (n : Nat) (p : Addr) : (s.retireTo n p).sp2 = s.sp2 := rfl
@[simp] theorem retireTo_f (s : State) (n : Nat) (p : Addr) : (s.retireTo n p).f = withE s.f false := rfl
@[simp] theorem retireTo_q (s : State) (n : Nat) (p : Addr) : (s.retireTo n p).q = s.q := rfl
@[simp] theorem retireTo_pairMask (s : State) (n : Nat) (p : Addr) : (s.retireTo n p).pairMask = s.pairMask := rfl
@[simp] theorem retireTo_defer (s : State) (n : Nat) (p : Addr) : (s.retireTo n p).defer = false := rfl
@[simp] theorem retireTo_run (s : State) (n : Nat) (p : Addr) : (s.retireTo n p).run = s.run := rfl
@[simp] theorem retireTo_nmiPending (s : State) (n : Nat) (p : Addr) : (s.retireTo n p).nmiPending = s.nmiPending := rfl
@[simp] theorem retireTo_inReset (s : State) (n : Nat) (p : Addr) : (s.retireTo n p).inReset = s.inReset := rfl
@[simp] theorem retireTo_prog (s : State) (n : Nat) (p : Addr) : (s.retireTo n p).prog = s.prog := rfl
@[simp] theorem retireTo_mem (s : State) (n : Nat) (p : Addr) : (s.retireTo n p).mem = s.mem := rfl
@[simp] theorem retireTo_cfg (s : State) (n : Nat) (p : Addr) : (s.retireTo n p).cfg = s.cfg := rfl
@[simp] theorem retireTo_inputs (s : State) (n : Nat) (p : Addr) : (s.retireTo n p).inputs = s.inputs := rfl
@[simp] theorem retireTo_events (s : State) (n : Nat) (p : Addr) : (s.retireTo n p).events = s.events := rfl
@[simp] theorem retireTo_periph (s : State) (n : Nat) (p : Addr) : (s.retireTo n p).periph = s.periph := rfl
@[simp] theorem retireTo_cycles (s : State) (n : Nat) (p : Addr) : (s.retireTo n p).cycles = s.cycles + n := rfl
@[simp] theorem retireTo_reg (s : State) (n : Nat) (p : Addr) (r : Reg) : (s.retireTo n p).reg r = s.reg r := by cases r <;> rfl
@[simp] theorem retireTo_idx (s : State) (n : Nat) (p : Addr) (i : Idx) : (s.retireTo n p).idx i = s.idx i := by cases i <;> rfl

/-! ### State.retire -/

@[simp] theorem retire_a (s : State) (n : Nat) : (s.retire n).a = s.a := rfl
@[simp] theorem retire_b (s : State) (n : Nat) : (s.retire n).b = s.b := rfl
@[simp] theorem retire_x (s : State) (n : Nat) : (s.retire n).x = s.x := rfl
@[simp] theorem retire_y (s : State) (n : Nat) : (s.retire n).y = s.y := rfl
@[simp] theorem retire_ext (s : State) (n : Nat) : (s.retire n).ext = s.ext := rfl
@[simp] theorem retire_pc (s : State) (n : Nat) : (s.retire n).pc = s.pc + 1#16 := rfl
@[simp] theorem retire_sp1 (s : State) (n : Nat) : (s.retire n).sp1 = s.sp1 := rfl
@[simp] theorem retire_sp2 (s : State) (n : Nat) : (s.retire n).sp2 = s.sp2 := rfl
@[simp] theorem retire_f (s : State) (n : Nat) : (s.retire n).f = withE s.f false := rfl
@[simp] theorem retire_q (s : State) (n : Nat) : (s.retire n).q = s.q := rfl
@[simp] theorem retire_pairMask (s : State) (n : Nat) : (s.retire n).pairMask = s.pairMask := rfl
@[simp] theorem retire_defer (s : State) (n : Nat) : (s.retire n).defer = false := rfl
@[simp] theorem retire_run (s : State) (n : Nat) : (s.retire n).run = s.run := rfl
@[simp] theorem retire_nmiPending (s : State) (n : Nat) : (s.retire n).nmiPending = s.nmiPending := rfl
@[simp] theorem retire_inReset (s : State) (n : Nat) : (s.retire n).inReset = s.inReset := rfl
@[simp] theorem retire_prog (s : State) (n : Nat) : (s.retire n).prog = s.prog := rfl
@[simp] theorem retire_mem (s : State) (n : Nat) : (s.retire n).mem = s.mem := rfl
@[simp] theorem retire_cfg (s : State) (n : Nat) : (s.retire n).cfg = s.cfg := rfl
@[simp] theorem retire_inputs (s : State) (n : Nat) : (s.retire n).inputs = s.inputs := rfl
@[simp] theorem retire_events (s : State) (n : Nat) : (s.retire n).events = s.events := rfl
@[simp] theorem retire_periph (s : State) (n : Nat) : (s.retire n).periph = s.periph := rfl
@[simp] theorem retire_cycles (s : State) (n : Nat) : (s.retire n).cycles = s.cycles + n := rfl
@[simp] theorem retire_reg (s : State) (n : Nat) (r : Reg) : (s.retire n).reg r = s.reg r := by cases r <;> rfl
@[simp] theorem retire_idx (s : State) (n : Nat) (i : Idx) : (s.retire n).idx i = s.idx i := by cases i <;> rfl

/-! ### State.retireF -/

@[simp] theorem retireF_a (s : State) (n : Nat) (p : Addr) (v : Nibble) : (s.retireF n p v).a = s.a := rfl
@[simp] theorem retireF_b (s : State) (n : Nat) (p : Addr) (v : Nibble) : (s.retireF n p v).b = s.b := rfl
@[simp] theorem retireF_x (s : State) (n : Nat) (p : Addr) (v : Nibble) : (s.retireF n p v).x = s.x := rfl
@[simp] theorem retireF_y (s : State) (n : Nat) (p : Addr) (v : Nibble) : (s.retireF n p v).y = s.y := rfl
@[simp] theorem retireF_ext (s : State) (n : Nat) (p : Addr) (v : Nibble) : (s.retireF n p v).ext = s.ext := rfl
@[simp] theorem retireF_pc (s : State) (n : Nat) (p : Addr) (v : Nibble) : (s.retireF n p v).pc = p := rfl
@[simp] theorem retireF_sp1 (s : State) (n : Nat) (p : Addr) (v : Nibble) : (s.retireF n p v).sp1 = s.sp1 := rfl
@[simp] theorem retireF_sp2 (s : State) (n : Nat) (p : Addr) (v : Nibble) : (s.retireF n p v).sp2 = s.sp2 := rfl
@[simp] theorem retireF_f (s : State) (n : Nat) (p : Addr) (v : Nibble) : (s.retireF n p v).f = v := rfl
@[simp] theorem retireF_q (s : State) (n : Nat) (p : Addr) (v : Nibble) : (s.retireF n p v).q = s.q := rfl
@[simp] theorem retireF_pairMask (s : State) (n : Nat) (p : Addr) (v : Nibble) : (s.retireF n p v).pairMask = s.pairMask := rfl
@[simp] theorem retireF_defer (s : State) (n : Nat) (p : Addr) (v : Nibble) : (s.retireF n p v).defer = true := rfl
@[simp] theorem retireF_run (s : State) (n : Nat) (p : Addr) (v : Nibble) : (s.retireF n p v).run = s.run := rfl
@[simp] theorem retireF_nmiPending (s : State) (n : Nat) (p : Addr) (v : Nibble) : (s.retireF n p v).nmiPending = s.nmiPending := rfl
@[simp] theorem retireF_inReset (s : State) (n : Nat) (p : Addr) (v : Nibble) : (s.retireF n p v).inReset = s.inReset := rfl
@[simp] theorem retireF_prog (s : State) (n : Nat) (p : Addr) (v : Nibble) : (s.retireF n p v).prog = s.prog := rfl
@[simp] theorem retireF_mem (s : State) (n : Nat) (p : Addr) (v : Nibble) : (s.retireF n p v).mem = s.mem := rfl
@[simp] theorem retireF_cfg (s : State) (n : Nat) (p : Addr) (v : Nibble) : (s.retireF n p v).cfg = s.cfg := rfl
@[simp] theorem retireF_inputs (s : State) (n : Nat) (p : Addr) (v : Nibble) : (s.retireF n p v).inputs = s.inputs := rfl
@[simp] theorem retireF_events (s : State) (n : Nat) (p : Addr) (v : Nibble) : (s.retireF n p v).events = s.events := rfl
@[simp] theorem retireF_periph (s : State) (n : Nat) (p : Addr) (v : Nibble) : (s.retireF n p v).periph = s.periph := rfl
@[simp] theorem retireF_cycles (s : State) (n : Nat) (p : Addr) (v : Nibble) : (s.retireF n p v).cycles = s.cycles + n := rfl
@[simp] theorem retireF_reg (s : State) (n : Nat) (p : Addr) (v : Nibble) (r : Reg) : (s.retireF n p v).reg r = s.reg r := by cases r <;> rfl
@[simp] theorem retireF_idx (s : State) (n : Nat) (p : Addr) (v : Nibble) (i : Idx) : (s.retireF n p v).idx i = s.idx i := by cases i <;> rfl

/-! ### State.retireSp -/

@[simp] theorem retireSp_a (s : State) (n : Nat) (w : StackPtr) : (s.retireSp n w).a = s.a := rfl
@[simp] theorem retireSp_b (s : State) (n : Nat) (w : StackPtr) : (s.retireSp n w).b = s.b := rfl
@[simp] theorem retireSp_x (s : State) (n : Nat) (w : StackPtr) : (s.retireSp n w).x = s.x := rfl
@[simp] theorem retireSp_y (s : State) (n : Nat) (w : StackPtr) : (s.retireSp n w).y = s.y := rfl
@[simp] theorem retireSp_ext (s : State) (n : Nat) (w : StackPtr) : (s.retireSp n w).ext = s.ext := rfl
@[simp] theorem retireSp_pc (s : State) (n : Nat) (w : StackPtr) : (s.retireSp n w).pc = s.pc + 1#16 := rfl
@[simp] theorem retireSp_sp1 (s : State) (n : Nat) (w : StackPtr) : (s.retireSp n w).sp1 = s.sp1 := rfl
@[simp] theorem retireSp_sp2 (s : State) (n : Nat) (w : StackPtr) : (s.retireSp n w).sp2 = s.sp2 := rfl
@[simp] theorem retireSp_f (s : State) (n : Nat) (w : StackPtr) : (s.retireSp n w).f = withE s.f false := rfl
@[simp] theorem retireSp_q (s : State) (n : Nat) (w : StackPtr) : (s.retireSp n w).q = s.q := rfl
@[simp] theorem retireSp_pairMask (s : State) (n : Nat) (w : StackPtr) : (s.retireSp n w).pairMask = pairMaskAfter s.pairMask w := rfl
@[simp] theorem retireSp_defer (s : State) (n : Nat) (w : StackPtr) : (s.retireSp n w).defer = true := rfl
@[simp] theorem retireSp_run (s : State) (n : Nat) (w : StackPtr) : (s.retireSp n w).run = s.run := rfl
@[simp] theorem retireSp_nmiPending (s : State) (n : Nat) (w : StackPtr) : (s.retireSp n w).nmiPending = s.nmiPending := rfl
@[simp] theorem retireSp_inReset (s : State) (n : Nat) (w : StackPtr) : (s.retireSp n w).inReset = s.inReset := rfl
@[simp] theorem retireSp_prog (s : State) (n : Nat) (w : StackPtr) : (s.retireSp n w).prog = s.prog := rfl
@[simp] theorem retireSp_mem (s : State) (n : Nat) (w : StackPtr) : (s.retireSp n w).mem = s.mem := rfl
@[simp] theorem retireSp_cfg (s : State) (n : Nat) (w : StackPtr) : (s.retireSp n w).cfg = s.cfg := rfl
@[simp] theorem retireSp_inputs (s : State) (n : Nat) (w : StackPtr) : (s.retireSp n w).inputs = s.inputs := rfl
@[simp] theorem retireSp_events (s : State) (n : Nat) (w : StackPtr) : (s.retireSp n w).events = s.events := rfl
@[simp] theorem retireSp_periph (s : State) (n : Nat) (w : StackPtr) : (s.retireSp n w).periph = s.periph := rfl
@[simp] theorem retireSp_cycles (s : State) (n : Nat) (w : StackPtr) : (s.retireSp n w).cycles = s.cycles + n := rfl
@[simp] theorem retireSp_reg (s : State) (n : Nat) (w : StackPtr) (r : Reg) : (s.retireSp n w).reg r = s.reg r := by cases r <;> rfl
@[simp] theorem retireSp_idx (s : State) (n : Nat) (w : StackPtr) (i : Idx) : (s.retireSp n w).idx i = s.idx i := by cases i <;> rfl

/-! ### State.ioAccess -/

@[simp] theorem ioAccess_a (s : State) (p : Periph) (e : Event) : (s.ioAccess p e).a = s.a := rfl
@[simp] theorem ioAccess_b (s : State) (p : Periph) (e : Event) : (s.ioAccess p e).b = s.b := rfl
@[simp] theorem ioAccess_x (s : State) (p : Periph) (e : Event) : (s.ioAccess p e).x = s.x := rfl
@[simp] theorem ioAccess_y (s : State) (p : Periph) (e : Event) : (s.ioAccess p e).y = s.y := rfl
@[simp] theorem ioAccess_ext (s : State) (p : Periph) (e : Event) : (s.ioAccess p e).ext = s.ext := rfl
@[simp] theorem ioAccess_pc (s : State) (p : Periph) (e : Event) : (s.ioAccess p e).pc = s.pc := rfl
@[simp] theorem ioAccess_sp1 (s : State) (p : Periph) (e : Event) : (s.ioAccess p e).sp1 = s.sp1 := rfl
@[simp] theorem ioAccess_sp2 (s : State) (p : Periph) (e : Event) : (s.ioAccess p e).sp2 = s.sp2 := rfl
@[simp] theorem ioAccess_f (s : State) (p : Periph) (e : Event) : (s.ioAccess p e).f = s.f := rfl
@[simp] theorem ioAccess_q (s : State) (p : Periph) (e : Event) : (s.ioAccess p e).q = s.q := rfl
@[simp] theorem ioAccess_pairMask (s : State) (p : Periph) (e : Event) : (s.ioAccess p e).pairMask = s.pairMask := rfl
@[simp] theorem ioAccess_defer (s : State) (p : Periph) (e : Event) : (s.ioAccess p e).defer = s.defer := rfl
@[simp] theorem ioAccess_run (s : State) (p : Periph) (e : Event) : (s.ioAccess p e).run = s.run := rfl
@[simp] theorem ioAccess_nmiPending (s : State) (p : Periph) (e : Event) : (s.ioAccess p e).nmiPending = s.nmiPending := rfl
@[simp] theorem ioAccess_inReset (s : State) (p : Periph) (e : Event) : (s.ioAccess p e).inReset = s.inReset := rfl
@[simp] theorem ioAccess_prog (s : State) (p : Periph) (e : Event) : (s.ioAccess p e).prog = s.prog := rfl
@[simp] theorem ioAccess_mem (s : State) (p : Periph) (e : Event) : (s.ioAccess p e).mem = s.mem := rfl
@[simp] theorem ioAccess_cfg (s : State) (p : Periph) (e : Event) : (s.ioAccess p e).cfg = s.cfg := rfl
@[simp] theorem ioAccess_inputs (s : State) (p : Periph) (e : Event) : (s.ioAccess p e).inputs = s.inputs := rfl
@[simp] theorem ioAccess_events (s : State) (p : Periph) (e : Event) : (s.ioAccess p e).events = e :: s.events := rfl
@[simp] theorem ioAccess_periph (s : State) (p : Periph) (e : Event) : (s.ioAccess p e).periph = p := rfl
@[simp] theorem ioAccess_cycles (s : State) (p : Periph) (e : Event) : (s.ioAccess p e).cycles = s.cycles := rfl

/-! ### State.takeInput -/

@[simp] theorem takeInput_a (s : State) : s.takeInput.a = s.a := rfl
@[simp] theorem takeInput_b (s : State) : s.takeInput.b = s.b := rfl
@[simp] theorem takeInput_x (s : State) : s.takeInput.x = s.x := rfl
@[simp] theorem takeInput_y (s : State) : s.takeInput.y = s.y := rfl
@[simp] theorem takeInput_ext (s : State) : s.takeInput.ext = s.ext := rfl
@[simp] theorem takeInput_pc (s : State) : s.takeInput.pc = s.pc := rfl
@[simp] theorem takeInput_sp1 (s : State) : s.takeInput.sp1 = s.sp1 := rfl
@[simp] theorem takeInput_sp2 (s : State) : s.takeInput.sp2 = s.sp2 := rfl
@[simp] theorem takeInput_f (s : State) : s.takeInput.f = s.f := rfl
@[simp] theorem takeInput_q (s : State) : s.takeInput.q = s.q := rfl
@[simp] theorem takeInput_pairMask (s : State) : s.takeInput.pairMask = s.pairMask := rfl
@[simp] theorem takeInput_defer (s : State) : s.takeInput.defer = s.defer := rfl
@[simp] theorem takeInput_run (s : State) : s.takeInput.run = s.run := rfl
@[simp] theorem takeInput_nmiPending (s : State) : s.takeInput.nmiPending = s.nmiPending := rfl
@[simp] theorem takeInput_inReset (s : State) : s.takeInput.inReset = false := rfl
@[simp] theorem takeInput_prog (s : State) : s.takeInput.prog = s.prog := rfl
@[simp] theorem takeInput_mem (s : State) : s.takeInput.mem = s.mem := rfl
@[simp] theorem takeInput_cfg (s : State) : s.takeInput.cfg = s.cfg := rfl
@[simp] theorem takeInput_inputs (s : State) : s.takeInput.inputs = s.inputs.tail := rfl
@[simp] theorem takeInput_events (s : State) : s.takeInput.events = s.events := rfl
@[simp] theorem takeInput_periph (s : State) : s.takeInput.periph = s.periph := rfl
@[simp] theorem takeInput_cycles (s : State) : s.takeInput.cycles = s.cycles := rfl

end Sys2Proof.Machine
end

