-- ==== Sys2Proof/Laws/Ops.lean ====
section
/-! SUPPORT. For every shared operation, once, what it can answer: a proof cites these and unfolds none of them. -/

namespace Sys2Proof.Machine

/-! ### Outcomes -/

theorem outcome_next_inj {s t : State} (h : (Host.Outcome.next s : Host.Outcome State Fault Refusal) = .next t) : s = t := by
  injection h

@[simp] theorem finish_next {r : Except Fault State} {t : State} : finish r = .next t ↔ r = .ok t := by
  cases r with
  | ok s => exact ⟨fun h => by rw [outcome_next_inj h], fun h => by injection h with h; rw [h]; rfl⟩
  | error e => exact ⟨fun h => (by cases h), fun h => (by cases h)⟩

@[simp] theorem finish_fault {r : Except Fault State} {e : Fault} : finish r = .fault e ↔ r = .error e := by
  cases r with
  | ok s => exact ⟨fun h => (by cases h), fun h => (by cases h)⟩
  | error d => exact ⟨fun h => by cases h; rfl, fun h => by cases h; rfl⟩

/-- An EXT-invalid instruction goes on exactly when E = 0 (R27). -/
@[simp] theorem extInvalid_next {s t : State} {r : Except Fault State} :
    extInvalid s r = .next t ↔ flagE s.f = false ∧ r = .ok t := by
  unfold extInvalid
  cases h : flagE s.f <;> simp

theorem extInvalid_off {s : State} (r : Except Fault State) (h : flagE s.f = false) : extInvalid s r = finish r := by
  simp [extInvalid, h]

theorem extInvalid_on {s : State} (r : Except Fault State) (h : flagE s.f = true) :
    extInvalid s r = .fault (.extMisuse s.pc (Cells.lookup s.prog s.pc.toNat)) := by
  simp [extInvalid, h]

/-- One step of a computation that can fault. -/
@[simp] theorem bind_ok {α β : Type} {r : Except Fault α} {k : α → Except Fault β} {b : β} :
    (r >>= k) = .ok b ↔ ∃ a, r = .ok a ∧ k a = .ok b := by
  cases r with
  | ok a => exact ⟨fun h => ⟨a, rfl, h⟩, fun ⟨a', h, h'⟩ => by cases h; exact h'⟩
  | error e => exact ⟨fun h => (by cases h), fun ⟨_, h, _⟩ => (by cases h)⟩

theorem ok_iff {α : Type} {a b : α} : (Except.ok a : Except Fault α) = .ok b ↔ b = a :=
  ⟨fun h => by cases h; rfl, fun h => by rw [h]⟩

@[simp] theorem ok_bind {α β : Type} (a : α) (k : α → Except Fault β) : ((.ok a : Except Fault α) >>= k) = k a := rfl

@[simp] theorem error_bind {α β : Type} (e : Fault) (k : α → Except Fault β) :
    ((.error e : Except Fault α) >>= k) = .error e := rfl

/-! ### Data memory -/

/-- `io_read` and `io_write` are the host's where the tables have a row (R52). -/
theorem ioRead_row {s : State} {a : Addr} {r : IoRow} (h : s.cfg.io.readRow s.periph a = some r) :
    ioRead s a = (r.value, r.after) := by
  simp [ioRead, h]

theorem ioWrite_row {s : State} {a : Addr} {v : Nibble} {r : IoRow} (h : s.cfg.io.writeRow s.periph a v = some r) :
    ioWrite s a v = r.after := by
  simp [ioWrite, h]

/-- A 4-bit read answers either the word RAM or ROM holds, the state as it was, or what `io_read` says, recorded (R44, R52). -/
theorem readWord_ok {s s1 : State} {a : Addr} {v : Nibble} (h : readWord s a = .ok (v, s1)) :
    ((kindAt s.cfg a = some .ram ∨ kindAt s.cfg a = some .rom) ∧ Cells.lookup s.mem a.toNat = some v ∧ s1 = s) ∨
    (kindAt s.cfg a = some .io ∧ v = (ioRead s a).1 ∧ s1 = s.ioAccess (ioRead s a).2 (.ioRead a v)) := by
  unfold readWord at h
  split at h
  · cases h
  · cases h
    exact .inr ⟨‹_›, rfl, rfl⟩
  · rename_i k hne hk
    split at h
    · cases h
      cases k with
      | ram => exact .inl ⟨.inl hk, ‹_›, rfl⟩
      | rom => exact .inl ⟨.inr hk, ‹_›, rfl⟩
      | io => exact absurd rfl hne
    · cases h

/-- A 4-bit read of written RAM or ROM answers the word. -/
theorem readWord_of_lookup {s : State} {a : Addr} {v : Nibble}
    (hk : kindAt s.cfg a = some .ram ∨ kindAt s.cfg a = some .rom) (hv : Cells.lookup s.mem a.toNat = some v) :
    readWord s a = .ok (v, s) := by
  unfold readWord
  rcases hk with h | h <;> simp [h, hv]

/-- A 4-bit write changes that word of RAM, or is an I/O write, recorded (R45, R52). -/
theorem writeWord_ok {s s1 : State} {a : Addr} {v : Nibble} (h : writeWord s a v = .ok s1) :
    (kindAt s.cfg a = some .ram ∧ s1 = s.setMem (Cells.insert s.mem a.toNat v)) ∨
    (kindAt s.cfg a = some .io ∧ s1 = s.ioAccess (ioWrite s a v) (.ioWrite a v)) := by
  unfold writeWord at h
  split at h
  · cases h
    exact .inl ⟨‹_›, rfl⟩
  · cases h
    exact .inr ⟨‹_›, rfl⟩
  · cases h

theorem writeWord_of_ram {s : State} {a : Addr} (v : Nibble) (hk : kindAt s.cfg a = some .ram) :
    writeWord s a v = .ok (s.setMem (Cells.insert s.mem a.toNat v)) := by
  simp [writeWord, hk]

/-- Accesses touch nothing but memory, the peripheral's state and the event list. -/
structure SameCore (s t : State) : Prop where
  a : t.a = s.a
  b : t.b = s.b
  x : t.x = s.x
  y : t.y = s.y
  ext : t.ext = s.ext
  pc : t.pc = s.pc
  sp1 : t.sp1 = s.sp1
  sp2 : t.sp2 = s.sp2
  f : t.f = s.f
  q : t.q = s.q
  pairMask : t.pairMask = s.pairMask
  defer : t.defer = s.defer
  run : t.run = s.run
  nmiPending : t.nmiPending = s.nmiPending
  inReset : t.inReset = s.inReset
  prog : t.prog = s.prog
  cfg : t.cfg = s.cfg
  inputs : t.inputs = s.inputs
  cycles : t.cycles = s.cycles

theorem SameCore.refl (s : State) : SameCore s s := by constructor <;> rfl

theorem readWord_sameCore {s s1 : State} {a : Addr} {v : Nibble} (h : readWord s a = .ok (v, s1)) :
    SameCore s s1 ∧ s1.mem = s.mem := by
  rcases readWord_ok h with ⟨-, -, rfl⟩ | ⟨-, -, rfl⟩
  · exact ⟨.refl _, rfl⟩
  · exact ⟨by constructor <;> rfl, rfl⟩

theorem writeWord_sameCore {s s1 : State} {a : Addr} {v : Nibble} (h : writeWord s a v = .ok s1) : SameCore s s1 := by
  rcases writeWord_ok h with ⟨-, rfl⟩ | ⟨-, rfl⟩ <;> constructor <;> rfl

/-- A 4-bit write keeps data memory canonical. -/
theorem writeWord_memory_wf {s s1 : State} {a : Addr} {v : Nibble} (h : writeWord s a v = .ok s1)
    (hm : Memory.wf s.mem = true) : Memory.wf s1.mem = true := by
  rcases writeWord_ok h with ⟨-, rfl⟩ | ⟨-, rfl⟩
  · exact memory_insert_wf a v hm
  · exact hm

/-- A 4-bit read keeps data memory canonical. -/
theorem readWord_memory_wf {s s1 : State} {a : Addr} {v : Nibble} (h : readWord s a = .ok (v, s1))
    (hm : Memory.wf s.mem = true) : Memory.wf s1.mem = true := by
  rw [(readWord_sameCore h).2]
  exact hm

/-- A 4-bit write changes no other word. -/
theorem writeWord_other {s s1 : State} {a : Addr} {v : Nibble} (h : writeWord s a v = .ok s1) {n : Nat} (hn : n ≠ a.toNat) :
    Cells.lookup s1.mem n = Cells.lookup s.mem n := by
  rcases writeWord_ok h with ⟨-, rfl⟩ | ⟨-, rfl⟩
  · exact lookup_insert_other _ _ hn
  · rfl

/-! ### The stacks -/

/-- A 4-bit push writes the word below SP2, which is RAM (R290 i, R381 g). -/
theorem push4_ok {s t : State} {v : Nibble} : push4 v s = .ok t ↔
    kindAt s.cfg (eaSp2 (s.sp2 - 1#8)) = some .ram ∧
      t = { s with sp2 := s.sp2 - 1#8, mem := Cells.insert s.mem (eaSp2 (s.sp2 - 1#8)).toNat v } := by
  unfold push4
  split
  · rename_i h
    exact ⟨fun e => by cases e; exact ⟨h, rfl⟩, fun ⟨_, e⟩ => by rw [e]⟩
  · rename_i h
    exact ⟨fun e => (by cases e), fun ⟨e, _⟩ => absurd e h⟩

/-- A 4-bit pop reads the word SP2 points to, which is RAM and written (R290 i, R381 g). -/
theorem pop4_ok {s t : State} {v : Nibble} : pop4 s = .ok (v, t) ↔
    kindAt s.cfg (eaSp2 s.sp2) = some .ram ∧ Cells.lookup s.mem (eaSp2 s.sp2).toNat = some v ∧
      t = { s with sp2 := s.sp2 + 1#8 } := by
  unfold pop4
  split
  · rename_i h
    cases hl : Cells.lookup s.mem (eaSp2 s.sp2).toNat with
    | none => simp
    | some w =>
      simp only [Except.ok.injEq, Prod.mk.injEq, Option.some.injEq]
      exact ⟨fun ⟨e, e'⟩ => ⟨h, e, e'.symm⟩, fun ⟨_, e, e'⟩ => ⟨e, e'.symm⟩⟩
  · rename_i h
    exact ⟨fun e => (by cases e), fun ⟨e, _⟩ => absurd e h⟩

/-- A 16-bit push writes memory and Q together (R30 case 1). -/
theorem push16_ok {s t : State} {v : Addr} : push16 v s = .ok t ↔
    inRam16 s.cfg (eaSp1 (s.sp1 - 1#8)) = true ∧
      t = { s with sp1 := s.sp1 - 1#8, q := some v, mem := insert16 s.mem (eaSp1 (s.sp1 - 1#8)).toNat v } := by
  unfold push16
  split
  · rename_i h
    exact ⟨fun e => by cases e; exact ⟨h, rfl⟩, fun ⟨_, e⟩ => by rw [e]⟩
  · rename_i h
    exact ⟨fun e => (by cases e), fun ⟨e, _⟩ => absurd e h⟩

/-- SP1 moves and Q is refilled (R30 cases 2 and 3). -/
theorem setSp1_ok {s t : State} {p : Byte} : setSp1 p s = .ok t ↔
    inRam16 s.cfg (eaSp1 p) = true ∧ t = { s with sp1 := p, q := lookup16 s.mem (eaSp1 p).toNat } := by
  unfold setSp1
  split
  · rename_i h
    exact ⟨fun e => by cases e; exact ⟨h, rfl⟩, fun ⟨_, e⟩ => by rw [e]⟩
  · rename_i h
    exact ⟨fun e => (by cases e), fun ⟨e, _⟩ => absurd e h⟩

/-- A 16-bit pop delivers Q, then refills it (R30 case 2). -/
theorem pop16_ok {s t : State} {v : Addr} : pop16 s = .ok (v, t) ↔ s.q = some v ∧ setSp1 (s.sp1 + 1#8) s = .ok t := by
  unfold pop16
  cases hq : s.q with
  | none => simp
  | some w =>
    simp only [bind_ok, Except.ok.injEq, Prod.mk.injEq, Option.some.injEq]
    constructor
    · rintro ⟨s1, h1, rfl, rfl⟩
      exact ⟨rfl, h1⟩
    · rintro ⟨rfl, h1⟩
      exact ⟨t, h1, rfl, rfl⟩

theorem saveContext_ok {s t : State} {ret : Addr} : saveContext ret s = .ok t ↔
    ∃ s1, push4 s.f s = .ok s1 ∧ push16 ret s1 = .ok t := by
  simp [saveContext]

theorem enterInterrupt_ok {s t : State} {v : Nibble} : enterInterrupt v s = .ok t ↔
    ∃ s1, saveContext s.pc s = .ok s1 ∧
      t = { s1 with
        pc := 0x0100#16 + v.setWidth 16, f := withE (withI s1.f false) false, run := .run, defer := false,
        cycles := s1.cycles + 3 } := by
  simp only [enterInterrupt, bind_ok, ok_iff]

theorem returnFromInterrupt_ok {s t : State} : returnFromInterrupt s = .ok t ↔
    ∃ ret s1 v s2, pop16 s = .ok (ret, s1) ∧ pop4 s1 = .ok (v, s2) ∧ t = s2.retireF 2 ret v := by
  simp only [returnFromInterrupt, bind_ok, ok_iff, Prod.exists, exists_and_left]

/-! ### The operand forms -/

theorem modifyAt_ok {op : AluOp} {a : Addr} {y : Nibble} {s t : State} : modifyAt op a y s = .ok t ↔
    ∃ x s1 s2, readWord s a = .ok (x, s1) ∧ writeWord s1 a (op (flagC s.f) x y).res = .ok s2 ∧
      t = s2.setCZ (op (flagC s.f) x y).c (op (flagC s.f) x y).z := by
  simp only [modifyAt, bind_ok, ok_iff, Prod.exists, exists_and_left]

theorem testAt_ok {op : AluOp} {a : Addr} {y : Nibble} {s t : State} : testAt op a y s = .ok t ↔
    ∃ x s1, readWord s a = .ok (x, s1) ∧ t = aluTest op x y s1 := by
  simp only [testAt, bind_ok, ok_iff, Prod.exists]

theorem exchangeAt_ok {r : Reg} {a : Addr} {s t : State} : exchangeAt r a s = .ok t ↔
    ∃ v s1 s2, readWord s a = .ok (v, s1) ∧ writeWord s1 a (s.reg r) = .ok s2 ∧ t = s2.setReg r v := by
  simp only [exchangeAt, bind_ok, ok_iff, Prod.exists, exists_and_left]

theorem read2_ok {a : Addr} {s t : State} {v : Byte} : read2 a s = .ok (v, t) ↔
    ∃ lo s1 hi, readWord s a = .ok (lo, s1) ∧ readWord s1 (a + 1#16) = .ok (hi, t) ∧ v = hi ++ lo := by
  simp only [read2, bind_ok, ok_iff, Prod.exists, Prod.mk.injEq]
  constructor
  · rintro ⟨lo, s1, h1, hi, s2, h2, rfl, rfl⟩
    exact ⟨lo, s1, hi, h1, h2, rfl⟩
  · rintro ⟨lo, s1, hi, h1, h2, rfl⟩
    exact ⟨lo, s1, h1, hi, t, h2, rfl, rfl⟩

theorem write2_ok {a : Addr} {v : Byte} {s t : State} : write2 a v s = .ok t ↔
    ∃ s1, writeWord s a (v.extractLsb' 0 4) = .ok s1 ∧ writeWord s1 (a + 1#16) (v.extractLsb' 4 4) = .ok t := by
  simp [write2]

theorem putReg_next {r : Reg} {v : Nibble} {s t : State} :
    putReg r v s = .next t ↔ flagE s.f = false ∧ t = (s.setReg r v).retire 1 := by
  simp only [putReg, extInvalid_next, ok_iff]

theorem putF_next {v : Nibble} {s t : State} :
    putF v s = .next t ↔ flagE s.f = false ∧ t = s.retireF 1 (s.pc + 1#16) v := by
  simp only [putF, extInvalid_next, ok_iff]

theorem loadMem_next {r : Reg} {i : Idx} {s t : State} : loadMem r i s = .next t ↔
    ∃ v s1, readWord s (eaInd s i) = .ok (v, s1) ∧ t = (s1.setReg r v).retire 1 := by
  simp only [loadMem, finish_next, bind_ok, ok_iff, Prod.exists]

theorem loadMemInc_next {r : Reg} {i : Idx} {s t : State} : loadMemInc r i s = .next t ↔
    flagE s.f = false ∧ ∃ v s1, readWord s (s.idx i) = .ok (v, s1) ∧ t = ((s1.setReg r v).bump i 1#16).retire 1 := by
  simp only [loadMemInc, extInvalid_next, bind_ok, ok_iff, Prod.exists]

theorem storeMem_next {i : Idx} {v : Nibble} {s t : State} : storeMem i v s = .next t ↔
    ∃ s1, writeWord s (eaInd s i) v = .ok s1 ∧ t = s1.retire 1 := by
  simp only [storeMem, finish_next, bind_ok, ok_iff]

theorem storeMemInc_next {i : Idx} {v : Nibble} {s t : State} : storeMemInc i v s = .next t ↔
    flagE s.f = false ∧ ∃ s1, writeWord s (s.idx i) v = .ok s1 ∧ t = (s1.bump i 1#16).retire 1 := by
  simp only [storeMemInc, extInvalid_next, bind_ok, ok_iff]

theorem copyMem_next {dst src : Idx} {m n : Addr} {s t : State} : copyMem dst m src n s = .next t ↔
    flagE s.f = false ∧ ∃ v s1 s2, readWord s (s.idx src) = .ok (v, s1) ∧ writeWord s1 (s.idx dst) v = .ok s2 ∧
      t = ((s2.bump dst m).bump src n).retire 2 := by
  simp only [copyMem, extInvalid_next, bind_ok, ok_iff, Prod.exists, exists_and_left]

theorem exchangeMem_next {r : Reg} {i : Idx} {s t : State} : exchangeMem r i s = .next t ↔
    ∃ s1, exchangeAt r (eaInd s i) s = .ok s1 ∧ t = s1.retire 2 := by
  simp only [exchangeMem, finish_next, bind_ok, ok_iff]

theorem exchangeMemInc_next {r : Reg} {i : Idx} {s t : State} : exchangeMemInc r i s = .next t ↔
    flagE s.f = false ∧ ∃ s1, exchangeAt r (s.idx i) s = .ok s1 ∧ t = (s1.bump i 1#16).retire 2 := by
  simp only [exchangeMemInc, extInvalid_next, bind_ok, ok_iff]

theorem regForm_next {n : Nat} {op : AluOp} {r : Reg} {y : Nibble} {s t : State} :
    regForm n op r y s = .next t ↔ flagE s.f = false ∧ t = (aluReg op r y s).retire n := by
  simp only [regForm, extInvalid_next, ok_iff]

theorem regMemForm_next {n : Nat} {op : AluOp} {r : Reg} {i : Idx} {s t : State} : regMemForm n op r i s = .next t ↔
    ∃ y s1, readWord s (eaInd s i) = .ok (y, s1) ∧ t = (aluReg op r y s1).retire n := by
  simp only [regMemForm, finish_next, bind_ok, ok_iff, Prod.exists]

theorem regMemIncForm_next {n : Nat} {op : AluOp} {r : Reg} {i : Idx} {s t : State} :
    regMemIncForm n op r i s = .next t ↔ flagE s.f = false ∧
      ∃ y s1, readWord s (s.idx i) = .ok (y, s1) ∧ t = ((aluReg op r y s1).bump i 1#16).retire n := by
  simp only [regMemIncForm, extInvalid_next, bind_ok, ok_iff, Prod.exists]

theorem regTest_next {op : AluOp} {r : Reg} {y : Nibble} {s t : State} :
    regTest op r y s = .next t ↔ flagE s.f = false ∧ t = (aluTest op (s.reg r) y s).retire 1 := by
  simp only [regTest, extInvalid_next, ok_iff]

theorem regMemTest_next {op : AluOp} {r : Reg} {i : Idx} {s t : State} : regMemTest op r i s = .next t ↔
    ∃ y s1, readWord s (eaInd s i) = .ok (y, s1) ∧ t = (aluTest op (s.reg r) y s1).retire 1 := by
  simp only [regMemTest, finish_next, bind_ok, ok_iff, Prod.exists]

theorem regMemIncTest_next {op : AluOp} {r : Reg} {i : Idx} {s t : State} : regMemIncTest op r i s = .next t ↔
    flagE s.f = false ∧
      ∃ y s1, readWord s (s.idx i) = .ok (y, s1) ∧ t = ((aluTest op (s.reg r) y s1).bump i 1#16).retire 1 := by
  simp only [regMemIncTest, extInvalid_next, bind_ok, ok_iff, Prod.exists]

theorem memForm_next {n : Nat} {op : AluOp} {i : Idx} {y : Nibble} {s t : State} : memForm n op i y s = .next t ↔
    ∃ s1, modifyAt op (eaInd s i) y s = .ok s1 ∧ t = s1.retire n := by
  simp only [memForm, finish_next, bind_ok, ok_iff]

theorem memIncForm_next {n : Nat} {op : AluOp} {i : Idx} {y : Nibble} {s t : State} : memIncForm n op i y s = .next t ↔
    flagE s.f = false ∧ ∃ s1, modifyAt op (s.idx i) y s = .ok s1 ∧ t = (s1.bump i 1#16).retire n := by
  simp only [memIncForm, extInvalid_next, bind_ok, ok_iff]

theorem memTest_next {op : AluOp} {i : Idx} {y : Nibble} {s t : State} : memTest op i y s = .next t ↔
    ∃ s1, testAt op (eaInd s i) y s = .ok s1 ∧ t = s1.retire 1 := by
  simp only [memTest, finish_next, bind_ok, ok_iff]

theorem memIncTest_next {op : AluOp} {i : Idx} {y : Nibble} {s t : State} : memIncTest op i y s = .next t ↔
    flagE s.f = false ∧ ∃ s1, testAt op (s.idx i) y s = .ok s1 ∧ t = (s1.bump i 1#16).retire 1 := by
  simp only [memIncTest, extInvalid_next, bind_ok, ok_iff]

theorem absForm_next {op : AluOp} {a : Addr} {y : Nibble} {s t : State} : absForm op a y s = .next t ↔
    flagE s.f = false ∧ ∃ s1, modifyAt op a y s = .ok s1 ∧ t = s1.retire 2 := by
  simp only [absForm, extInvalid_next, bind_ok, ok_iff]

theorem absTest_next {op : AluOp} {a : Addr} {y : Nibble} {s t : State} : absTest op a y s = .next t ↔
    flagE s.f = false ∧ ∃ s1, testAt op a y s = .ok s1 ∧ t = s1.retire 1 := by
  simp only [absTest, extInvalid_next, bind_ok, ok_iff]

theorem putBA_next {v : Byte} {s t : State} :
    putBA v s = .next t ↔ flagE s.f = false ∧ t = (s.setBA v).retire 1 := by
  simp only [putBA, extInvalid_next, ok_iff]

theorem loadBA_next {i : Idx} {s t : State} : loadBA i s = .next t ↔
    flagE s.f = false ∧ ∃ v s1, read2 (s.idx i) s = .ok (v, s1) ∧ t = ((s1.setBA v).bump i 2#16).retire 2 := by
  simp only [loadBA, extInvalid_next, bind_ok, ok_iff, Prod.exists]

theorem store2_next {i : Idx} {v : Byte} {s t : State} : store2 i v s = .next t ↔
    flagE s.f = false ∧ ∃ s1, write2 (s.idx i) v s = .ok s1 ∧ t = (s1.bump i 2#16).retire 2 := by
  simp only [store2, extInvalid_next, bind_ok, ok_iff]

theorem putExt_next {v : Byte} {s t : State} : putExt v s = .next t ↔
    flagE s.f = false ∧ t = { s with ext := v }.retireF 1 (s.pc + 1#16) (withE s.f true) := by
  simp only [putExt, extInvalid_next, ok_iff]

theorem putLowBA_next {i : Idx} {s t : State} : putLowBA i s = .next t ↔
    flagE s.f = false ∧ t = (s.setIdx i ((s.idx i).extractLsb' 8 8 ++ s.ba)).retire 1 := by
  simp only [putLowBA, extInvalid_next, ok_iff]

theorem putHighBA_next {i : Idx} {s t : State} : putHighBA i s = .next t ↔
    flagE s.f = false ∧ t = (s.setIdx i (s.ba ++ (s.idx i).extractLsb' 0 8)).retire 1 := by
  simp only [putHighBA, extInvalid_next, ok_iff]

theorem putSp1BA_next {s t : State} : putSp1BA s = .next t ↔
    flagE s.f = false ∧ ∃ s1, setSp1 s.ba s = .ok s1 ∧ t = s1.retireSp 1 .sp1 := by
  simp only [putSp1BA, extInvalid_next, bind_ok, ok_iff]

theorem putSp2BA_next {s t : State} : putSp2BA s = .next t ↔
    flagE s.f = false ∧ t = { s with sp2 := s.ba }.retireSp 1 .sp2 := by
  simp only [putSp2BA, extInvalid_next, ok_iff]

theorem stepSp1_next {p : Byte} {s t : State} : stepSp1 p s = .next t ↔
    flagE s.f = false ∧ ∃ s1, setSp1 p s = .ok s1 ∧ t = (s1.setZ (decide (p = 0#8))).retire 1 := by
  simp only [stepSp1, extInvalid_next, bind_ok, ok_iff]

theorem stepSp2_next {p : Byte} {s t : State} : stepSp2 p s = .next t ↔
    flagE s.f = false ∧ t = ({ s with sp2 := p }.setZ (decide (p = 0#8))).retire 1 := by
  simp only [stepSp2, extInvalid_next, ok_iff]

theorem pushNibble_next {v : Nibble} {s t : State} : pushNibble v s = .next t ↔
    flagE s.f = false ∧ ∃ s1, push4 v s = .ok s1 ∧ t = s1.retire 1 := by
  simp only [pushNibble, extInvalid_next, bind_ok, ok_iff]

theorem popReg_next {r : Reg} {s t : State} : popReg r s = .next t ↔
    flagE s.f = false ∧ ∃ v s1, pop4 s = .ok (v, s1) ∧ t = (s1.setReg r v).retire 1 := by
  simp only [popReg, extInvalid_next, bind_ok, ok_iff, Prod.exists]

theorem pushIdx_next {i : Idx} {s t : State} : pushIdx i s = .next t ↔
    flagE s.f = false ∧ ∃ s1, push16 (s.idx i) s = .ok s1 ∧ t = s1.retire 1 := by
  simp only [pushIdx, extInvalid_next, bind_ok, ok_iff]

theorem popIdx_next {i : Idx} {s t : State} : popIdx i s = .next t ↔
    flagE s.f = false ∧ ∃ v s1, pop16 s = .ok (v, s1) ∧ t = (s1.setIdx i v).retire 1 := by
  simp only [popIdx, extInvalid_next, bind_ok, ok_iff, Prod.exists]

theorem jumpTo_next {p : Addr} {s t : State} :
    jumpTo p s = .next t ↔ flagE s.f = false ∧ t = s.retireTo 1 p := by
  simp only [jumpTo, extInvalid_next, ok_iff]

/-! ### The boundary -/

/-- What a boundary with an input can answer: a reset, an interrupt entry, a moment of standby, or the instruction's outcome. -/
theorem atBoundary_next {i : BoundaryInput} {run : State → Host.Outcome State Fault Refusal} {s t : State}
    (h : atBoundary i run s = .next t) :
    inputRefusal s.cfg i = none ∧
    ((i.reset = true ∧ t = resetEvent s) ∨
     (i.reset = false ∧ accepted (irqLine i s) (latchNmi i s) = some (.ok t)) ∨
     (i.reset = false ∧ accepted (irqLine i s) (latchNmi i s) = none ∧ s.run ≠ .run ∧ t = latchNmi i s) ∨
     (i.reset = false ∧ accepted (irqLine i s) (latchNmi i s) = none ∧ s.run = .run ∧ run (latchNmi i s) = .next t)) := by
  unfold atBoundary at h
  split at h
  · cases h
  · rename_i hr
    refine ⟨hr, ?_⟩
    split at h
    · rename_i hi
      exact .inl ⟨hi, (outcome_next_inj h).symm⟩
    · rename_i hi
      have hi' : i.reset = false := by simpa using hi
      split at h
      · rename_i r hacc
        rw [finish_next] at h
        exact .inr (.inl ⟨hi', by rw [hacc, h]⟩)
      · rename_i hacc
        split at h
        · exact .inr (.inr (.inr ⟨hi', hacc, ‹_›, h⟩))
        · rename_i hrun
          exact .inr (.inr (.inl ⟨hi', hacc, hrun, (outcome_next_inj h).symm⟩))

/-- The boundary with an input on the list (R330). -/
theorem boundary_cons {run : State → Host.Outcome State Fault Refusal} {s : State} {i : BoundaryInput}
    {rest : List BoundaryInput} (h : s.inputs = i :: rest) : boundary run s = atBoundary i run s.takeInput := by
  unfold boundary
  rw [h]

/-- The boundary with nothing more on offer is a quiet one, unless the core waits with nothing to take (R357 b). -/
theorem boundary_nil {run : State → Host.Outcome State Fault Refusal} {s : State} (h : s.inputs = [])
    (hr : s.run = .run ∨ accepted none s ≠ none) : boundary run s = atBoundary quietInput run s.takeInput := by
  unfold boundary
  rw [h]
  split
  · rename_i h1
    cases h1
  · split
    · rename_i h1 h2
      rcases hr with hr | hr
      · rw [h1] at hr
        cases hr
      · exact absurd h2 hr
    · rename_i h1 h2
      rcases hr with hr | hr
      · rw [h1] at hr
        cases hr
      · exact absurd h2 hr
    · rfl

/-- In standby with nothing more on offer and nothing to take, the run is over (R357 b). -/
theorem boundary_quiescent {run : State → Host.Outcome State Fault Refusal} {s : State} (h : s.inputs = []) (hr : s.run ≠ .run)
    (ha : accepted none s = none) : boundary run s = .fault .quiescent := by
  unfold boundary
  rw [h]
  cases hs : s.run with
  | run => exact absurd hs hr
  | halt => simp [ha]
  | sleep => simp [ha]

/-- A boundary that offers nothing leaves the NMI latch as it is (R303). -/
@[simp] theorem latchNmi_quiet (s : State) : latchNmi quietInput s = s := by simp [latchNmi, quietInput]

/-- An accepted interrupt is one `enterInterrupt` after the acknowledge events (R305, R306, R308). -/
theorem accepted_some {irq : Option Nibble} {s : State} {r : Except Fault State} (h : accepted irq s = some r) :
    boundaryOpen s = true ∧
    ((s.nmiPending = true ∧ r = acceptNmi s) ∨
     (s.nmiPending = false ∧ flagI s.f = true ∧ ∃ v, irq = some v ∧ r = acceptIrq v s)) := by
  unfold accepted at h
  split at h
  · rename_i ho
    refine ⟨ho, ?_⟩
    split at h
    · rename_i hn
      cases h
      exact .inl ⟨hn, rfl⟩
    · rename_i hn
      have hn' : s.nmiPending = false := by simpa using hn
      split at h
      · split at h
        · cases h
          exact .inr ⟨hn', ‹_›, _, rfl, rfl⟩
        · cases h
      · cases h
  · cases h

end Sys2Proof.Machine
end

