-- ==== Sys2Proof/Laws/PerInstr.lean ====
section
/-! SUPPORT. Statements about every instruction, one lemma per constructor. `TableRow`: the encoder's word carries the fixed bits
of the instruction's row of spec/opcode_table.json (spec/30_encoding.md R73, R74), a don't-care bit left out. -/

namespace Sys2Proof.Laws.TableRow

/-- The bits a row fixes and their values, as the table's `mask` and `match` give them. -/
def fixedBits (i : Instr) : PWord × PWord :=
  match i with
  | .adcAA => (0x1FFE#13, 0x19F0#13)
  | .adcAB => (0x1FFE#13, 0x19F2#13)
  | .adcBA => (0x1FFE#13, 0x19F4#13)
  | .adcBB => (0x1FFE#13, 0x19F6#13)
  | .adcAImm4 _ => (0x1FF0#13, 0x19C0#13)
  | .adcBImm4 _ => (0x1FF0#13, 0x19D0#13)
  | .adcAMemX => (0x1FFF#13, 0x19E0#13)
  | .adcAMemY => (0x1FFF#13, 0x19E2#13)
  | .adcBMemX => (0x1FFF#13, 0x19E4#13)
  | .adcBMemY => (0x1FFF#13, 0x19E6#13)
  | .adcAMemXInc => (0x1FFF#13, 0x19E1#13)
  | .adcAMemYInc => (0x1FFF#13, 0x19E3#13)
  | .adcBMemXInc => (0x1FFF#13, 0x19E5#13)
  | .adcBMemYInc => (0x1FFF#13, 0x19E7#13)
  | .adcMemXA => (0x1FFF#13, 0x19E8#13)
  | .adcMemXB => (0x1FFF#13, 0x19EC#13)
  | .adcMemYA => (0x1FFF#13, 0x19EA#13)
  | .adcMemYB => (0x1FFF#13, 0x19EE#13)
  | .adcMemXIncA => (0x1FFF#13, 0x19E9#13)
  | .adcMemXIncB => (0x1FFF#13, 0x19ED#13)
  | .adcMemYIncA => (0x1FFF#13, 0x19EB#13)
  | .adcMemYIncB => (0x1FFF#13, 0x19EF#13)
  | .adcMemXImm4 _ => (0x1FF0#13, 0x1980#13)
  | .adcMemYImm4 _ => (0x1FF0#13, 0x19A0#13)
  | .adcMemXIncImm4 _ => (0x1FF0#13, 0x1990#13)
  | .adcMemYIncImm4 _ => (0x1FF0#13, 0x19B0#13)
  | .adcBAN4 _ => (0x1FF0#13, 0x10D0#13)
  | .adcBMemXN4 _ => (0x1FF0#13, 0x1DC0#13)
  | .adcBMemYN4 _ => (0x1FF0#13, 0x1DE0#13)
  | .adcMemXBN4 _ => (0x1FF0#13, 0x1D40#13)
  | .adcMemYBN4 _ => (0x1FF0#13, 0x1D60#13)
  | .adcBMemXIncN4 _ => (0x1FF0#13, 0x1DD0#13)
  | .adcBMemYIncN4 _ => (0x1FF0#13, 0x1DF0#13)
  | .adcMemXIncBN4 _ => (0x1FF0#13, 0x1D50#13)
  | .adcMemYIncBN4 _ => (0x1FF0#13, 0x1D70#13)
  | .adcMemXZeroN4 _ => (0x1FF0#13, 0x1D00#13)
  | .adcMemYZeroN4 _ => (0x1FF0#13, 0x1D20#13)
  | .addAA => (0x1FFE#13, 0x1970#13)
  | .addAB => (0x1FFE#13, 0x1972#13)
  | .addBA => (0x1FFE#13, 0x1974#13)
  | .addBB => (0x1FFE#13, 0x1976#13)
  | .adcMemXIncZeroN4 _ => (0x1FF0#13, 0x1D10#13)
  | .adcMemYIncZeroN4 _ => (0x1FF0#13, 0x1D30#13)
  | .addAImm4 _ => (0x1FF0#13, 0x1940#13)
  | .addBImm4 _ => (0x1FF0#13, 0x1950#13)
  | .addAMemX => (0x1FFF#13, 0x1960#13)
  | .addAMemY => (0x1FFF#13, 0x1962#13)
  | .addBMemX => (0x1FFF#13, 0x1964#13)
  | .addBMemY => (0x1FFF#13, 0x1966#13)
  | .addAMemXInc => (0x1FFF#13, 0x1961#13)
  | .addAMemYInc => (0x1FFF#13, 0x1963#13)
  | .addBMemXInc => (0x1FFF#13, 0x1965#13)
  | .addBMemYInc => (0x1FFF#13, 0x1967#13)
  | .addMemXA => (0x1FFF#13, 0x1968#13)
  | .addMemXB => (0x1FFF#13, 0x196C#13)
  | .addMemYA => (0x1FFF#13, 0x196A#13)
  | .addMemYB => (0x1FFF#13, 0x196E#13)
  | .addMemXIncA => (0x1FFF#13, 0x1969#13)
  | .addMemXIncB => (0x1FFF#13, 0x196D#13)
  | .addMemYIncA => (0x1FFF#13, 0x196B#13)
  | .addMemYIncB => (0x1FFF#13, 0x196F#13)
  | .addMemXImm4 _ => (0x1FF0#13, 0x1900#13)
  | .addMemYImm4 _ => (0x1FF0#13, 0x1920#13)
  | .addMemXIncImm4 _ => (0x1FF0#13, 0x1910#13)
  | .addMemYIncImm4 _ => (0x1FF0#13, 0x1930#13)
  | .addXBA => (0x1FFE#13, 0x1FD0#13)
  | .addYBA => (0x1FFE#13, 0x1FD2#13)
  | .addXSign8 _ => (0x1F00#13, 0x0C00#13)
  | .addYSign8 _ => (0x1F00#13, 0x0D00#13)
  | .andAA => (0x1FFE#13, 0x1A70#13)
  | .andAB => (0x1FFE#13, 0x1A72#13)
  | .andBA => (0x1FFE#13, 0x1A74#13)
  | .andBB => (0x1FFE#13, 0x1A76#13)
  | .andAImm4 _ => (0x1FF0#13, 0x1A40#13)
  | .andBImm4 _ => (0x1FF0#13, 0x1A50#13)
  | .andFImm4 _ => (0x1FF0#13, 0x1080#13)
  | .andAMemXInc => (0x1FFF#13, 0x1A61#13)
  | .andAMemYInc => (0x1FFF#13, 0x1A63#13)
  | .andBMemXInc => (0x1FFF#13, 0x1A65#13)
  | .andBMemYInc => (0x1FFF#13, 0x1A67#13)
  | .andAMemX => (0x1FFF#13, 0x1A60#13)
  | .andAMemY => (0x1FFF#13, 0x1A62#13)
  | .andBMemX => (0x1FFF#13, 0x1A64#13)
  | .andBMemY => (0x1FFF#13, 0x1A66#13)
  | .andMemXA => (0x1FFF#13, 0x1A68#13)
  | .andMemXB => (0x1FFF#13, 0x1A6C#13)
  | .andMemYA => (0x1FFF#13, 0x1A6A#13)
  | .andMemYB => (0x1FFF#13, 0x1A6E#13)
  | .andMemXIncA => (0x1FFF#13, 0x1A69#13)
  | .andMemXIncB => (0x1FFF#13, 0x1A6D#13)
  | .andMemYIncA => (0x1FFF#13, 0x1A6B#13)
  | .andMemYIncB => (0x1FFF#13, 0x1A6F#13)
  | .andMemXImm4 _ => (0x1FF0#13, 0x1A00#13)
  | .andMemYImm4 _ => (0x1FF0#13, 0x1A20#13)
  | .andMemXIncImm4 _ => (0x1FF0#13, 0x1A10#13)
  | .andMemYIncImm4 _ => (0x1FF0#13, 0x1A30#13)
  | .bitAA => (0x1FFE#13, 0x1AF0#13)
  | .bitAB => (0x1FFE#13, 0x1AF2#13)
  | .bitBA => (0x1FFE#13, 0x1AF4#13)
  | .bitBB => (0x1FFE#13, 0x1AF6#13)
  | .bitAImm4 _ => (0x1FF0#13, 0x1AC0#13)
  | .bitBImm4 _ => (0x1FF0#13, 0x1AD0#13)
  | .bitAMemXInc => (0x1FFF#13, 0x1AE1#13)
  | .bitAMemYInc => (0x1FFF#13, 0x1AE3#13)
  | .bitBMemXInc => (0x1FFF#13, 0x1AE5#13)
  | .bitBMemYInc => (0x1FFF#13, 0x1AE7#13)
  | .bitAMemX => (0x1FFF#13, 0x1AE0#13)
  | .bitAMemY => (0x1FFF#13, 0x1AE2#13)
  | .bitBMemX => (0x1FFF#13, 0x1AE4#13)
  | .bitBMemY => (0x1FFF#13, 0x1AE6#13)
  | .bitMemXA => (0x1FFF#13, 0x1AE8#13)
  | .bitMemXB => (0x1FFF#13, 0x1AEC#13)
  | .bitMemYA => (0x1FFF#13, 0x1AEA#13)
  | .bitMemYB => (0x1FFF#13, 0x1AEE#13)
  | .bitMemXIncA => (0x1FFF#13, 0x1AE9#13)
  | .bitMemXIncB => (0x1FFF#13, 0x1AED#13)
  | .bitMemYIncA => (0x1FFF#13, 0x1AEB#13)
  | .bitMemYIncB => (0x1FFF#13, 0x1AEF#13)
  | .bitMemXIncImm4 _ => (0x1FF0#13, 0x1A90#13)
  | .bitMemYIncImm4 _ => (0x1FF0#13, 0x1AB0#13)
  | .bitMemXImm4 _ => (0x1FF0#13, 0x1A80#13)
  | .bitMemYImm4 _ => (0x1FF0#13, 0x1AA0#13)
  | .calrMemAddr6 _ => (0x1FC0#13, 0x1F00#13)
  | .calrSign8 _ => (0x1F00#13, 0x0200#13)
  | .calzImm8 _ => (0x1F00#13, 0x0300#13)
  | .clrMem00Addr6Imm2 _ _ => (0x1F00#13, 0x1400#13)
  | .clrMemFFAddr6Imm2 _ _ => (0x1F00#13, 0x1500#13)
  | .cmpAImm4 _ => (0x1FF0#13, 0x1E40#13)
  | .cmpBImm4 _ => (0x1FF0#13, 0x1E50#13)
  | .cmpAA => (0x1FF7#13, 0x1E70#13)
  | .cmpAB => (0x1FF7#13, 0x1E72#13)
  | .cmpBA => (0x1FF7#13, 0x1E74#13)
  | .cmpBB => (0x1FF7#13, 0x1E76#13)
  | .cmpAMemX => (0x1FFF#13, 0x1E60#13)
  | .cmpAMemY => (0x1FFF#13, 0x1E62#13)
  | .cmpBMemX => (0x1FFF#13, 0x1E64#13)
  | .cmpBMemY => (0x1FFF#13, 0x1E66#13)
  | .cmpAMemXInc => (0x1FFF#13, 0x1E61#13)
  | .cmpAMemYInc => (0x1FFF#13, 0x1E63#13)
  | .cmpBMemXInc => (0x1FFF#13, 0x1E65#13)
  | .cmpBMemYInc => (0x1FFF#13, 0x1E67#13)
  | .cmpMemXIncA => (0x1FFF#13, 0x1E69#13)
  | .cmpMemXIncB => (0x1FFF#13, 0x1E6D#13)
  | .cmpMemYIncA => (0x1FFF#13, 0x1E6B#13)
  | .cmpMemYIncB => (0x1FFF#13, 0x1E6F#13)
  | .cmpMemXA => (0x1FFF#13, 0x1E68#13)
  | .cmpMemXB => (0x1FFF#13, 0x1E6C#13)
  | .cmpMemYA => (0x1FFF#13, 0x1E6A#13)
  | .cmpMemYB => (0x1FFF#13, 0x1E6E#13)
  | .cmpMemXIncImm4 _ => (0x1FF0#13, 0x1E10#13)
  | .cmpMemYIncImm4 _ => (0x1FF0#13, 0x1E30#13)
  | .cmpMemXImm4 _ => (0x1FF0#13, 0x1E00#13)
  | .cmpMemYImm4 _ => (0x1FF0#13, 0x1E20#13)
  | .cmpXImm8 _ => (0x1F00#13, 0x0E00#13)
  | .cmpYImm8 _ => (0x1F00#13, 0x0F00#13)
  | .decMemAddr6 _ => (0x1FC0#13, 0x1000#13)
  | .decMemXN4 _ => (0x1FF0#13, 0x1C80#13)
  | .decMemYN4 _ => (0x1FF0#13, 0x1CA0#13)
  | .decMemXIncN4 _ => (0x1FF0#13, 0x1C90#13)
  | .decMemYIncN4 _ => (0x1FF0#13, 0x1CB0#13)
  | .exAB => (0x1FFF#13, 0x1FF7#13)
  | .decSP1 => (0x1FFF#13, 0x1FE0#13)
  | .decSP2 => (0x1FFF#13, 0x1FE4#13)
  | .exAMemX => (0x1FFF#13, 0x10F8#13)
  | .exAMemY => (0x1FFF#13, 0x10FA#13)
  | .exBMemX => (0x1FFF#13, 0x10FC#13)
  | .exBMemY => (0x1FFF#13, 0x10FE#13)
  | .exAMemXInc => (0x1FFF#13, 0x10F9#13)
  | .exAMemYInc => (0x1FFF#13, 0x10FB#13)
  | .exBMemXInc => (0x1FFF#13, 0x10FD#13)
  | .exBMemYInc => (0x1FFF#13, 0x10FF#13)
  | .halt => (0x1FFF#13, 0x1FFC#13)
  | .incMemAddr6 _ => (0x1FC0#13, 0x1040#13)
  | .incMemXN4 _ => (0x1FF0#13, 0x1D80#13)
  | .incMemYN4 _ => (0x1FF0#13, 0x1DA0#13)
  | .incMemXIncN4 _ => (0x1FF0#13, 0x1D90#13)
  | .incMemYIncN4 _ => (0x1FF0#13, 0x1DB0#13)
  | .intImm6 _ => (0x1FC0#13, 0x1F80#13)
  | .incSP1 => (0x1FFF#13, 0x1FE8#13)
  | .incSP2 => (0x1FFF#13, 0x1FEC#13)
  | .jpY => (0x1FFE#13, 0x1FF2#13)
  | .jrA => (0x1FFF#13, 0x1FF1#13)
  | .jrBA => (0x1FFF#13, 0x1FF0#13)
  | .jrMemAddr6 _ => (0x1FC0#13, 0x1F40#13)
  | .jrSign8 _ => (0x1F00#13, 0x0000#13)
  | .jrcSign8 _ => (0x1F00#13, 0x0400#13)
  | .jrncSign8 _ => (0x1F00#13, 0x0500#13)
  | .jrnzSign8 _ => (0x1F00#13, 0x0700#13)
  | .jrzSign8 _ => (0x1F00#13, 0x0600#13)
  | .ldAA => (0x1FFF#13, 0x1EF0#13)
  | .ldAB => (0x1FFF#13, 0x1EF2#13)
  | .ldAF => (0x1FFF#13, 0x1FF6#13)
  | .ldBA => (0x1FFF#13, 0x1EF4#13)
  | .ldBB => (0x1FFF#13, 0x1EF6#13)
  | .ldFA => (0x1FFF#13, 0x1FF5#13)
  | .ldAImm4 _ => (0x1FF0#13, 0x1EC0#13)
  | .ldBImm4 _ => (0x1FF0#13, 0x1ED0#13)
  | .ldFImm4 _ => (0x1FF0#13, 0x10B0#13)
  | .ldAMemX => (0x1FFF#13, 0x1EE0#13)
  | .ldAMemY => (0x1FFF#13, 0x1EE2#13)
  | .ldBMemX => (0x1FFF#13, 0x1EE4#13)
  | .ldBMemY => (0x1FFF#13, 0x1EE6#13)
  | .ldAMemXInc => (0x1FFF#13, 0x1EE1#13)
  | .ldAMemYInc => (0x1FFF#13, 0x1EE3#13)
  | .ldBMemXInc => (0x1FFF#13, 0x1EE5#13)
  | .ldBMemYInc => (0x1FFF#13, 0x1EE7#13)
  | .ldMemXA => (0x1FFF#13, 0x1EE8#13)
  | .ldMemXB => (0x1FFF#13, 0x1EEC#13)
  | .ldMemYA => (0x1FFF#13, 0x1EEA#13)
  | .ldMemYB => (0x1FFF#13, 0x1EEE#13)
  | .ldMemXIncA => (0x1FFF#13, 0x1EE9#13)
  | .ldMemXIncB => (0x1FFF#13, 0x1EED#13)
  | .ldMemYIncA => (0x1FFF#13, 0x1EEB#13)
  | .ldMemYIncB => (0x1FFF#13, 0x1EEF#13)
  | .ldMemXImm4 _ => (0x1FF0#13, 0x1E80#13)
  | .ldMemYImm4 _ => (0x1FF0#13, 0x1EA0#13)
  | .ldMemXIncImm4 _ => (0x1FF0#13, 0x1E90#13)
  | .ldMemYIncImm4 _ => (0x1FF0#13, 0x1EB0#13)
  | .ldMemXMemY => (0x1FFF#13, 0x1EFA#13)
  | .ldMemYMemX => (0x1FFF#13, 0x1EF8#13)
  | .ldMemXMemYInc => (0x1FFF#13, 0x1EFB#13)
  | .ldMemYMemXInc => (0x1FFF#13, 0x1EF9#13)
  | .ldMemXIncMemY => (0x1FFF#13, 0x1EFE#13)
  | .ldMemYIncMemX => (0x1FFF#13, 0x1EFC#13)
  | .ldMemXIncMemYInc => (0x1FFF#13, 0x1EFF#13)
  | .ldMemYIncMemXInc => (0x1FFF#13, 0x1EFD#13)
  | .ldbBAImm8 _ => (0x1F00#13, 0x0900#13)
  | .ldbBAMemXInc => (0x1FFF#13, 0x1FD8#13)
  | .ldbBAMemYInc => (0x1FFF#13, 0x1FDA#13)
  | .ldbBAEXT => (0x1FFE#13, 0x1FD6#13)
  | .ldbBAXL => (0x1FFF#13, 0x1FC8#13)
  | .ldbBAXH => (0x1FFF#13, 0x1FC9#13)
  | .ldbBAYL => (0x1FFF#13, 0x1FCA#13)
  | .ldbBAYH => (0x1FFF#13, 0x1FCB#13)
  | .ldbBASP1 => (0x1FFE#13, 0x1FCC#13)
  | .ldbBASP2 => (0x1FFE#13, 0x1FCE#13)
  | .ldbMemXIncBA => (0x1FFF#13, 0x1FD9#13)
  | .ldbMemYIncBA => (0x1FFF#13, 0x1FDB#13)
  | .ldbMemXIncImm8 _ => (0x1F00#13, 0x0100#13)
  | .ldbEXTImm8 _ => (0x1F00#13, 0x0800#13)
  | .ldbEXTBA => (0x1FFE#13, 0x1FD4#13)
  | .ldbXLImm8 _ => (0x1F00#13, 0x0A00#13)
  | .ldbYLImm8 _ => (0x1F00#13, 0x0B00#13)
  | .ldbXLBA => (0x1FFF#13, 0x1FC0#13)
  | .ldbXHBA => (0x1FFF#13, 0x1FC1#13)
  | .ldbYLBA => (0x1FFF#13, 0x1FC2#13)
  | .ldbYHBA => (0x1FFF#13, 0x1FC3#13)
  | .ldbSP1BA => (0x1FFE#13, 0x1FC4#13)
  | .ldbSP2BA => (0x1FFE#13, 0x1FC6#13)
  | .nop => (0x1FFE#13, 0x1FFE#13)
  | .orAA => (0x1FFE#13, 0x1B70#13)
  | .orAB => (0x1FFE#13, 0x1B72#13)
  | .orBA => (0x1FFE#13, 0x1B74#13)
  | .orBB => (0x1FFE#13, 0x1B76#13)
  | .orAImm4 _ => (0x1FF0#13, 0x1B40#13)
  | .orBImm4 _ => (0x1FF0#13, 0x1B50#13)
  | .orFImm4 _ => (0x1FF0#13, 0x1090#13)
  | .orAMemX => (0x1FFF#13, 0x1B60#13)
  | .orAMemY => (0x1FFF#13, 0x1B62#13)
  | .orBMemX => (0x1FFF#13, 0x1B64#13)
  | .orBMemY => (0x1FFF#13, 0x1B66#13)
  | .orAMemXInc => (0x1FFF#13, 0x1B61#13)
  | .orAMemYInc => (0x1FFF#13, 0x1B63#13)
  | .orBMemXInc => (0x1FFF#13, 0x1B65#13)
  | .orBMemYInc => (0x1FFF#13, 0x1B67#13)
  | .orMemXA => (0x1FFF#13, 0x1B68#13)
  | .orMemXB => (0x1FFF#13, 0x1B6C#13)
  | .orMemYA => (0x1FFF#13, 0x1B6A#13)
  | .orMemYB => (0x1FFF#13, 0x1B6E#13)
  | .orMemXIncA => (0x1FFF#13, 0x1B69#13)
  | .orMemXIncB => (0x1FFF#13, 0x1B6D#13)
  | .orMemYIncA => (0x1FFF#13, 0x1B6B#13)
  | .orMemYIncB => (0x1FFF#13, 0x1B6F#13)
  | .orMemXImm4 _ => (0x1FF0#13, 0x1B00#13)
  | .orMemYImm4 _ => (0x1FF0#13, 0x1B20#13)
  | .orMemXIncImm4 _ => (0x1FF0#13, 0x1B10#13)
  | .orMemYIncImm4 _ => (0x1FF0#13, 0x1B30#13)
  | .popA => (0x1FFF#13, 0x1FEF#13)
  | .popB => (0x1FFF#13, 0x1FEE#13)
  | .popF => (0x1FFF#13, 0x1FED#13)
  | .pushA => (0x1FFF#13, 0x1FE7#13)
  | .pushB => (0x1FFF#13, 0x1FE6#13)
  | .pushF => (0x1FFF#13, 0x1FE5#13)
  | .popX => (0x1FFF#13, 0x1FE9#13)
  | .popY => (0x1FFE#13, 0x1FEA#13)
  | .pushX => (0x1FFF#13, 0x1FE1#13)
  | .pushY => (0x1FFE#13, 0x1FE2#13)
  | .ret => (0x1FFD#13, 0x1FF8#13)
  | .retdImm8 _ => (0x1F00#13, 0x1100#13)
  | .reti => (0x1FFF#13, 0x1FF9#13)
  | .rlA => (0x1FFF#13, 0x10F2#13)
  | .rlB => (0x1FFF#13, 0x10F6#13)
  | .rets => (0x1FFF#13, 0x1FFB#13)
  | .rlMemX => (0x1FFF#13, 0x10E8#13)
  | .rlMemY => (0x1FFF#13, 0x10EA#13)
  | .rlMemXInc => (0x1FFF#13, 0x10E9#13)
  | .rlMemYInc => (0x1FFF#13, 0x10EB#13)
  | .rrA => (0x1FFF#13, 0x10F3#13)
  | .rrB => (0x1FFF#13, 0x10F7#13)
  | .rrMemX => (0x1FFF#13, 0x10EC#13)
  | .rrMemY => (0x1FFF#13, 0x10EE#13)
  | .rrMemXInc => (0x1FFF#13, 0x10ED#13)
  | .rrMemYInc => (0x1FFF#13, 0x10EF#13)
  | .sbcAA => (0x1FFE#13, 0x18F0#13)
  | .sbcAB => (0x1FFE#13, 0x18F2#13)
  | .sbcBA => (0x1FFE#13, 0x18F4#13)
  | .sbcBB => (0x1FFE#13, 0x18F6#13)
  | .sbcAImm4 _ => (0x1FF0#13, 0x18C0#13)
  | .sbcBImm4 _ => (0x1FF0#13, 0x18D0#13)
  | .sbcAMemX => (0x1FFF#13, 0x18E0#13)
  | .sbcAMemY => (0x1FFF#13, 0x18E2#13)
  | .sbcBMemX => (0x1FFF#13, 0x18E4#13)
  | .sbcBMemY => (0x1FFF#13, 0x18E6#13)
  | .sbcAMemXInc => (0x1FFF#13, 0x18E1#13)
  | .sbcAMemYInc => (0x1FFF#13, 0x18E3#13)
  | .sbcBMemXInc => (0x1FFF#13, 0x18E5#13)
  | .sbcBMemYInc => (0x1FFF#13, 0x18E7#13)
  | .sbcMemXA => (0x1FFF#13, 0x18E8#13)
  | .sbcMemXB => (0x1FFF#13, 0x18EC#13)
  | .sbcMemYA => (0x1FFF#13, 0x18EA#13)
  | .sbcMemYB => (0x1FFF#13, 0x18EE#13)
  | .sbcMemXIncA => (0x1FFF#13, 0x18E9#13)
  | .sbcMemXIncB => (0x1FFF#13, 0x18ED#13)
  | .sbcMemYIncA => (0x1FFF#13, 0x18EB#13)
  | .sbcMemYIncB => (0x1FFF#13, 0x18EF#13)
  | .sbcMemXImm4 _ => (0x1FF0#13, 0x1880#13)
  | .sbcMemYImm4 _ => (0x1FF0#13, 0x18A0#13)
  | .sbcMemXIncImm4 _ => (0x1FF0#13, 0x1890#13)
  | .sbcMemYIncImm4 _ => (0x1FF0#13, 0x18B0#13)
  | .sbcBAN4 _ => (0x1FF0#13, 0x10C0#13)
  | .sbcBMemXN4 _ => (0x1FF0#13, 0x1CC0#13)
  | .sbcBMemYN4 _ => (0x1FF0#13, 0x1CE0#13)
  | .sbcBMemXIncN4 _ => (0x1FF0#13, 0x1CD0#13)
  | .sbcBMemYIncN4 _ => (0x1FF0#13, 0x1CF0#13)
  | .sbcMemXBN4 _ => (0x1FF0#13, 0x1C40#13)
  | .sbcMemYBN4 _ => (0x1FF0#13, 0x1C60#13)
  | .sbcMemXIncBN4 _ => (0x1FF0#13, 0x1C50#13)
  | .sbcMemYIncBN4 _ => (0x1FF0#13, 0x1C70#13)
  | .sbcMemXZeroN4 _ => (0x1FF0#13, 0x1C00#13)
  | .sbcMemYZeroN4 _ => (0x1FF0#13, 0x1C20#13)
  | .sbcMemXIncZeroN4 _ => (0x1FF0#13, 0x1C10#13)
  | .sbcMemYIncZeroN4 _ => (0x1FF0#13, 0x1C30#13)
  | .setMem00Addr6Imm2 _ _ => (0x1F00#13, 0x1600#13)
  | .setMemFFAddr6Imm2 _ _ => (0x1F00#13, 0x1700#13)
  | .sllA => (0x1FFF#13, 0x10F0#13)
  | .sllB => (0x1FFF#13, 0x10F4#13)
  | .sllMemXInc => (0x1FFF#13, 0x10E1#13)
  | .sllMemYInc => (0x1FFF#13, 0x10E3#13)
  | .sllMemX => (0x1FFF#13, 0x10E0#13)
  | .sllMemY => (0x1FFF#13, 0x10E2#13)
  | .slp => (0x1FFF#13, 0x1FFD#13)
  | .srlA => (0x1FFF#13, 0x10F1#13)
  | .srlB => (0x1FFF#13, 0x10F5#13)
  | .srlMemX => (0x1FFF#13, 0x10E4#13)
  | .srlMemY => (0x1FFF#13, 0x10E6#13)
  | .srlMemXInc => (0x1FFF#13, 0x10E5#13)
  | .srlMemYInc => (0x1FFF#13, 0x10E7#13)
  | .subAA => (0x1FFE#13, 0x1870#13)
  | .subAB => (0x1FFE#13, 0x1872#13)
  | .subBA => (0x1FFE#13, 0x1874#13)
  | .subBB => (0x1FFE#13, 0x1876#13)
  | .subAImm4 _ => (0x1FF0#13, 0x1840#13)
  | .subBImm4 _ => (0x1FF0#13, 0x1850#13)
  | .subAMemXInc => (0x1FFF#13, 0x1861#13)
  | .subAMemYInc => (0x1FFF#13, 0x1863#13)
  | .subBMemXInc => (0x1FFF#13, 0x1865#13)
  | .subBMemYInc => (0x1FFF#13, 0x1867#13)
  | .subAMemX => (0x1FFF#13, 0x1860#13)
  | .subAMemY => (0x1FFF#13, 0x1862#13)
  | .subBMemX => (0x1FFF#13, 0x1864#13)
  | .subBMemY => (0x1FFF#13, 0x1866#13)
  | .subMemXIncA => (0x1FFF#13, 0x1869#13)
  | .subMemXIncB => (0x1FFF#13, 0x186D#13)
  | .subMemYIncA => (0x1FFF#13, 0x186B#13)
  | .subMemYIncB => (0x1FFF#13, 0x186F#13)
  | .subMemXA => (0x1FFF#13, 0x1868#13)
  | .subMemXB => (0x1FFF#13, 0x186C#13)
  | .subMemYA => (0x1FFF#13, 0x186A#13)
  | .subMemYB => (0x1FFF#13, 0x186E#13)
  | .subMemXImm4 _ => (0x1FF0#13, 0x1800#13)
  | .subMemYImm4 _ => (0x1FF0#13, 0x1820#13)
  | .subMemXIncImm4 _ => (0x1FF0#13, 0x1810#13)
  | .subMemYIncImm4 _ => (0x1FF0#13, 0x1830#13)
  | .xorAA => (0x1FFE#13, 0x1BF0#13)
  | .xorAB => (0x1FFE#13, 0x1BF2#13)
  | .xorBA => (0x1FFE#13, 0x1BF4#13)
  | .xorBB => (0x1FFE#13, 0x1BF6#13)
  | .tstMem00Addr6Imm2 _ _ => (0x1F00#13, 0x1200#13)
  | .tstMemFFAddr6Imm2 _ _ => (0x1F00#13, 0x1300#13)
  | .xorAImm4 _ => (0x1FF0#13, 0x1BC0#13)
  | .xorBImm4 _ => (0x1FF0#13, 0x1BD0#13)
  | .xorFImm4 _ => (0x1FF0#13, 0x10A0#13)
  | .xorAMemX => (0x1FFF#13, 0x1BE0#13)
  | .xorAMemY => (0x1FFF#13, 0x1BE2#13)
  | .xorBMemX => (0x1FFF#13, 0x1BE4#13)
  | .xorBMemY => (0x1FFF#13, 0x1BE6#13)
  | .xorAMemXInc => (0x1FFF#13, 0x1BE1#13)
  | .xorAMemYInc => (0x1FFF#13, 0x1BE3#13)
  | .xorBMemXInc => (0x1FFF#13, 0x1BE5#13)
  | .xorBMemYInc => (0x1FFF#13, 0x1BE7#13)
  | .xorMemXA => (0x1FFF#13, 0x1BE8#13)
  | .xorMemXB => (0x1FFF#13, 0x1BEC#13)
  | .xorMemYA => (0x1FFF#13, 0x1BEA#13)
  | .xorMemYB => (0x1FFF#13, 0x1BEE#13)
  | .xorMemXIncA => (0x1FFF#13, 0x1BE9#13)
  | .xorMemXIncB => (0x1FFF#13, 0x1BED#13)
  | .xorMemYIncA => (0x1FFF#13, 0x1BEB#13)
  | .xorMemYIncB => (0x1FFF#13, 0x1BEF#13)
  | .xorMemXImm4 _ => (0x1FF0#13, 0x1B80#13)
  | .xorMemYImm4 _ => (0x1FF0#13, 0x1BA0#13)
  | .xorMemXIncImm4 _ => (0x1FF0#13, 0x1B90#13)
  | .xorMemYIncImm4 _ => (0x1FF0#13, 0x1BB0#13)

/-- The encoding of `i` has its row's value in every bit the row fixes. -/
def Statement (i : Instr) : Prop := encode i &&& (fixedBits i).1 = (fixedBits i).2

/-- Masking a field off leaves the bits before it. -/
theorem mask_field {m n : Nat} (h : BitVec m) (k : BitVec n) :
    (h ++ k) &&& (BitVec.allOnes m ++ 0#n) = h ++ 0#n := by
  ext i hi
  simp only [BitVec.getElem_and, BitVec.getElem_append]
  split <;> simp

theorem prefix9 (h : BitVec 9) (k : BitVec 4) : (h ++ k) &&& 0x1FF0#13 = h ++ 0#4 := mask_field h k

theorem prefix7 (h : BitVec 7) (k : BitVec 6) : (h ++ k) &&& 0x1FC0#13 = h ++ 0#6 := mask_field h k

theorem prefix5 (h : BitVec 5) (k : BitVec 8) : (h ++ k) &&& 0x1F00#13 = h ++ 0#8 := mask_field h k

theorem prefix52 (h : BitVec 5) (b : BitVec 2) (a : BitVec 6) : (h ++ b ++ a) &&& 0x1F00#13 = h ++ 0#8 := by
  rw [show h ++ b ++ a = (h ++ (b ++ a)).cast rfl from BitVec.append_assoc]
  exact mask_field h (b ++ a)

theorem adcAA : Statement .adcAA := rfl

theorem adcAB : Statement .adcAB := rfl

theorem adcBA : Statement .adcBA := rfl

theorem adcBB : Statement .adcBB := rfl

theorem adcAImm4 (i : Nibble) : Statement (.adcAImm4 i) := prefix9 _ _

theorem adcBImm4 (i : Nibble) : Statement (.adcBImm4 i) := prefix9 _ _

theorem adcAMemX : Statement .adcAMemX := rfl

theorem adcAMemY : Statement .adcAMemY := rfl

theorem adcBMemX : Statement .adcBMemX := rfl

theorem adcBMemY : Statement .adcBMemY := rfl

theorem adcAMemXInc : Statement .adcAMemXInc := rfl

theorem adcAMemYInc : Statement .adcAMemYInc := rfl

theorem adcBMemXInc : Statement .adcBMemXInc := rfl

theorem adcBMemYInc : Statement .adcBMemYInc := rfl

theorem adcMemXA : Statement .adcMemXA := rfl

theorem adcMemXB : Statement .adcMemXB := rfl

theorem adcMemYA : Statement .adcMemYA := rfl

theorem adcMemYB : Statement .adcMemYB := rfl

theorem adcMemXIncA : Statement .adcMemXIncA := rfl

theorem adcMemXIncB : Statement .adcMemXIncB := rfl

theorem adcMemYIncA : Statement .adcMemYIncA := rfl

theorem adcMemYIncB : Statement .adcMemYIncB := rfl

theorem adcMemXImm4 (i : Nibble) : Statement (.adcMemXImm4 i) := prefix9 _ _

theorem adcMemYImm4 (i : Nibble) : Statement (.adcMemYImm4 i) := prefix9 _ _

theorem adcMemXIncImm4 (i : Nibble) : Statement (.adcMemXIncImm4 i) := prefix9 _ _

theorem adcMemYIncImm4 (i : Nibble) : Statement (.adcMemYIncImm4 i) := prefix9 _ _

theorem adcBAN4 (n : Nat) : Statement (.adcBAN4 n) := prefix9 _ _

theorem adcBMemXN4 (n : Nat) : Statement (.adcBMemXN4 n) := prefix9 _ _

theorem adcBMemYN4 (n : Nat) : Statement (.adcBMemYN4 n) := prefix9 _ _

theorem adcMemXBN4 (n : Nat) : Statement (.adcMemXBN4 n) := prefix9 _ _

theorem adcMemYBN4 (n : Nat) : Statement (.adcMemYBN4 n) := prefix9 _ _

theorem adcBMemXIncN4 (n : Nat) : Statement (.adcBMemXIncN4 n) := prefix9 _ _

theorem adcBMemYIncN4 (n : Nat) : Statement (.adcBMemYIncN4 n) := prefix9 _ _

theorem adcMemXIncBN4 (n : Nat) : Statement (.adcMemXIncBN4 n) := prefix9 _ _

theorem adcMemYIncBN4 (n : Nat) : Statement (.adcMemYIncBN4 n) := prefix9 _ _

theorem adcMemXZeroN4 (n : Nat) : Statement (.adcMemXZeroN4 n) := prefix9 _ _

theorem adcMemYZeroN4 (n : Nat) : Statement (.adcMemYZeroN4 n) := prefix9 _ _

theorem addAA : Statement .addAA := rfl

theorem addAB : Statement .addAB := rfl

theorem addBA : Statement .addBA := rfl

theorem addBB : Statement .addBB := rfl

theorem adcMemXIncZeroN4 (n : Nat) : Statement (.adcMemXIncZeroN4 n) := prefix9 _ _

theorem adcMemYIncZeroN4 (n : Nat) : Statement (.adcMemYIncZeroN4 n) := prefix9 _ _

theorem addAImm4 (i : Nibble) : Statement (.addAImm4 i) := prefix9 _ _

theorem addBImm4 (i : Nibble) : Statement (.addBImm4 i) := prefix9 _ _

theorem addAMemX : Statement .addAMemX := rfl

theorem addAMemY : Statement .addAMemY := rfl

theorem addBMemX : Statement .addBMemX := rfl

theorem addBMemY : Statement .addBMemY := rfl

theorem addAMemXInc : Statement .addAMemXInc := rfl

theorem addAMemYInc : Statement .addAMemYInc := rfl

theorem addBMemXInc : Statement .addBMemXInc := rfl

theorem addBMemYInc : Statement .addBMemYInc := rfl

theorem addMemXA : Statement .addMemXA := rfl

theorem addMemXB : Statement .addMemXB := rfl

theorem addMemYA : Statement .addMemYA := rfl

theorem addMemYB : Statement .addMemYB := rfl

theorem addMemXIncA : Statement .addMemXIncA := rfl

theorem addMemXIncB : Statement .addMemXIncB := rfl

theorem addMemYIncA : Statement .addMemYIncA := rfl

theorem addMemYIncB : Statement .addMemYIncB := rfl

theorem addMemXImm4 (i : Nibble) : Statement (.addMemXImm4 i) := prefix9 _ _

theorem addMemYImm4 (i : Nibble) : Statement (.addMemYImm4 i) := prefix9 _ _

theorem addMemXIncImm4 (i : Nibble) : Statement (.addMemXIncImm4 i) := prefix9 _ _

theorem addMemYIncImm4 (i : Nibble) : Statement (.addMemYIncImm4 i) := prefix9 _ _

theorem addXBA : Statement .addXBA := rfl

theorem addYBA : Statement .addYBA := rfl

theorem addXSign8 (d : Byte) : Statement (.addXSign8 d) := prefix5 _ _

theorem addYSign8 (d : Byte) : Statement (.addYSign8 d) := prefix5 _ _

theorem andAA : Statement .andAA := rfl

theorem andAB : Statement .andAB := rfl

theorem andBA : Statement .andBA := rfl

theorem andBB : Statement .andBB := rfl

theorem andAImm4 (i : Nibble) : Statement (.andAImm4 i) := prefix9 _ _

theorem andBImm4 (i : Nibble) : Statement (.andBImm4 i) := prefix9 _ _

theorem andFImm4 (i : Nibble) : Statement (.andFImm4 i) := prefix9 _ _

theorem andAMemXInc : Statement .andAMemXInc := rfl

theorem andAMemYInc : Statement .andAMemYInc := rfl

theorem andBMemXInc : Statement .andBMemXInc := rfl

theorem andBMemYInc : Statement .andBMemYInc := rfl

theorem andAMemX : Statement .andAMemX := rfl

theorem andAMemY : Statement .andAMemY := rfl

theorem andBMemX : Statement .andBMemX := rfl

theorem andBMemY : Statement .andBMemY := rfl

theorem andMemXA : Statement .andMemXA := rfl

theorem andMemXB : Statement .andMemXB := rfl

theorem andMemYA : Statement .andMemYA := rfl

theorem andMemYB : Statement .andMemYB := rfl

theorem andMemXIncA : Statement .andMemXIncA := rfl

theorem andMemXIncB : Statement .andMemXIncB := rfl

theorem andMemYIncA : Statement .andMemYIncA := rfl

theorem andMemYIncB : Statement .andMemYIncB := rfl

theorem andMemXImm4 (i : Nibble) : Statement (.andMemXImm4 i) := prefix9 _ _

theorem andMemYImm4 (i : Nibble) : Statement (.andMemYImm4 i) := prefix9 _ _

theorem andMemXIncImm4 (i : Nibble) : Statement (.andMemXIncImm4 i) := prefix9 _ _

theorem andMemYIncImm4 (i : Nibble) : Statement (.andMemYIncImm4 i) := prefix9 _ _

theorem bitAA : Statement .bitAA := rfl

theorem bitAB : Statement .bitAB := rfl

theorem bitBA : Statement .bitBA := rfl

theorem bitBB : Statement .bitBB := rfl

theorem bitAImm4 (i : Nibble) : Statement (.bitAImm4 i) := prefix9 _ _

theorem bitBImm4 (i : Nibble) : Statement (.bitBImm4 i) := prefix9 _ _

theorem bitAMemXInc : Statement .bitAMemXInc := rfl

theorem bitAMemYInc : Statement .bitAMemYInc := rfl

theorem bitBMemXInc : Statement .bitBMemXInc := rfl

theorem bitBMemYInc : Statement .bitBMemYInc := rfl

theorem bitAMemX : Statement .bitAMemX := rfl

theorem bitAMemY : Statement .bitAMemY := rfl

theorem bitBMemX : Statement .bitBMemX := rfl

theorem bitBMemY : Statement .bitBMemY := rfl

theorem bitMemXA : Statement .bitMemXA := rfl

theorem bitMemXB : Statement .bitMemXB := rfl

theorem bitMemYA : Statement .bitMemYA := rfl

theorem bitMemYB : Statement .bitMemYB := rfl

theorem bitMemXIncA : Statement .bitMemXIncA := rfl

theorem bitMemXIncB : Statement .bitMemXIncB := rfl

theorem bitMemYIncA : Statement .bitMemYIncA := rfl

theorem bitMemYIncB : Statement .bitMemYIncB := rfl

theorem bitMemXIncImm4 (i : Nibble) : Statement (.bitMemXIncImm4 i) := prefix9 _ _

theorem bitMemYIncImm4 (i : Nibble) : Statement (.bitMemYIncImm4 i) := prefix9 _ _

theorem bitMemXImm4 (i : Nibble) : Statement (.bitMemXImm4 i) := prefix9 _ _

theorem bitMemYImm4 (i : Nibble) : Statement (.bitMemYImm4 i) := prefix9 _ _

theorem calrMemAddr6 (a : BitVec 6) : Statement (.calrMemAddr6 a) := prefix7 _ _

theorem calrSign8 (d : Byte) : Statement (.calrSign8 d) := prefix5 _ _

theorem calzImm8 (i : Byte) : Statement (.calzImm8 i) := prefix5 _ _

theorem clrMem00Addr6Imm2 (a : BitVec 6) (b : BitVec 2) : Statement (.clrMem00Addr6Imm2 a b) := prefix52 _ _ _

theorem clrMemFFAddr6Imm2 (a : BitVec 6) (b : BitVec 2) : Statement (.clrMemFFAddr6Imm2 a b) := prefix52 _ _ _

theorem cmpAImm4 (i : Nibble) : Statement (.cmpAImm4 i) := prefix9 _ _

theorem cmpBImm4 (i : Nibble) : Statement (.cmpBImm4 i) := prefix9 _ _

theorem cmpAA : Statement .cmpAA := rfl

theorem cmpAB : Statement .cmpAB := rfl

theorem cmpBA : Statement .cmpBA := rfl

theorem cmpBB : Statement .cmpBB := rfl

theorem cmpAMemX : Statement .cmpAMemX := rfl

theorem cmpAMemY : Statement .cmpAMemY := rfl

theorem cmpBMemX : Statement .cmpBMemX := rfl

theorem cmpBMemY : Statement .cmpBMemY := rfl

theorem cmpAMemXInc : Statement .cmpAMemXInc := rfl

theorem cmpAMemYInc : Statement .cmpAMemYInc := rfl

theorem cmpBMemXInc : Statement .cmpBMemXInc := rfl

theorem cmpBMemYInc : Statement .cmpBMemYInc := rfl

theorem cmpMemXIncA : Statement .cmpMemXIncA := rfl

theorem cmpMemXIncB : Statement .cmpMemXIncB := rfl

theorem cmpMemYIncA : Statement .cmpMemYIncA := rfl

theorem cmpMemYIncB : Statement .cmpMemYIncB := rfl

theorem cmpMemXA : Statement .cmpMemXA := rfl

theorem cmpMemXB : Statement .cmpMemXB := rfl

theorem cmpMemYA : Statement .cmpMemYA := rfl

theorem cmpMemYB : Statement .cmpMemYB := rfl

theorem cmpMemXIncImm4 (i : Nibble) : Statement (.cmpMemXIncImm4 i) := prefix9 _ _

theorem cmpMemYIncImm4 (i : Nibble) : Statement (.cmpMemYIncImm4 i) := prefix9 _ _

theorem cmpMemXImm4 (i : Nibble) : Statement (.cmpMemXImm4 i) := prefix9 _ _

theorem cmpMemYImm4 (i : Nibble) : Statement (.cmpMemYImm4 i) := prefix9 _ _

theorem cmpXImm8 (i : Byte) : Statement (.cmpXImm8 i) := prefix5 _ _

theorem cmpYImm8 (i : Byte) : Statement (.cmpYImm8 i) := prefix5 _ _

theorem decMemAddr6 (a : BitVec 6) : Statement (.decMemAddr6 a) := prefix7 _ _

theorem decMemXN4 (n : Nat) : Statement (.decMemXN4 n) := prefix9 _ _

theorem decMemYN4 (n : Nat) : Statement (.decMemYN4 n) := prefix9 _ _

theorem decMemXIncN4 (n : Nat) : Statement (.decMemXIncN4 n) := prefix9 _ _

theorem decMemYIncN4 (n : Nat) : Statement (.decMemYIncN4 n) := prefix9 _ _

theorem exAB : Statement .exAB := rfl

theorem decSP1 : Statement .decSP1 := rfl

theorem decSP2 : Statement .decSP2 := rfl

theorem exAMemX : Statement .exAMemX := rfl

theorem exAMemY : Statement .exAMemY := rfl

theorem exBMemX : Statement .exBMemX := rfl

theorem exBMemY : Statement .exBMemY := rfl

theorem exAMemXInc : Statement .exAMemXInc := rfl

theorem exAMemYInc : Statement .exAMemYInc := rfl

theorem exBMemXInc : Statement .exBMemXInc := rfl

theorem exBMemYInc : Statement .exBMemYInc := rfl

theorem halt : Statement .halt := rfl

theorem incMemAddr6 (a : BitVec 6) : Statement (.incMemAddr6 a) := prefix7 _ _

theorem incMemXN4 (n : Nat) : Statement (.incMemXN4 n) := prefix9 _ _

theorem incMemYN4 (n : Nat) : Statement (.incMemYN4 n) := prefix9 _ _

theorem incMemXIncN4 (n : Nat) : Statement (.incMemXIncN4 n) := prefix9 _ _

theorem incMemYIncN4 (n : Nat) : Statement (.incMemYIncN4 n) := prefix9 _ _

theorem intImm6 (v : BitVec 6) : Statement (.intImm6 v) := prefix7 _ _

theorem incSP1 : Statement .incSP1 := rfl

theorem incSP2 : Statement .incSP2 := rfl

theorem jpY : Statement .jpY := rfl

theorem jrA : Statement .jrA := rfl

theorem jrBA : Statement .jrBA := rfl

theorem jrMemAddr6 (a : BitVec 6) : Statement (.jrMemAddr6 a) := prefix7 _ _

theorem jrSign8 (d : Byte) : Statement (.jrSign8 d) := prefix5 _ _

theorem jrcSign8 (d : Byte) : Statement (.jrcSign8 d) := prefix5 _ _

theorem jrncSign8 (d : Byte) : Statement (.jrncSign8 d) := prefix5 _ _

theorem jrnzSign8 (d : Byte) : Statement (.jrnzSign8 d) := prefix5 _ _

theorem jrzSign8 (d : Byte) : Statement (.jrzSign8 d) := prefix5 _ _

theorem ldAA : Statement .ldAA := rfl

theorem ldAB : Statement .ldAB := rfl

theorem ldAF : Statement .ldAF := rfl

theorem ldBA : Statement .ldBA := rfl

theorem ldBB : Statement .ldBB := rfl

theorem ldFA : Statement .ldFA := rfl

theorem ldAImm4 (i : Nibble) : Statement (.ldAImm4 i) := prefix9 _ _

theorem ldBImm4 (i : Nibble) : Statement (.ldBImm4 i) := prefix9 _ _

theorem ldFImm4 (i : Nibble) : Statement (.ldFImm4 i) := prefix9 _ _

theorem ldAMemX : Statement .ldAMemX := rfl

theorem ldAMemY : Statement .ldAMemY := rfl

theorem ldBMemX : Statement .ldBMemX := rfl

theorem ldBMemY : Statement .ldBMemY := rfl

theorem ldAMemXInc : Statement .ldAMemXInc := rfl

theorem ldAMemYInc : Statement .ldAMemYInc := rfl

theorem ldBMemXInc : Statement .ldBMemXInc := rfl

theorem ldBMemYInc : Statement .ldBMemYInc := rfl

theorem ldMemXA : Statement .ldMemXA := rfl

theorem ldMemXB : Statement .ldMemXB := rfl

theorem ldMemYA : Statement .ldMemYA := rfl

theorem ldMemYB : Statement .ldMemYB := rfl

theorem ldMemXIncA : Statement .ldMemXIncA := rfl

theorem ldMemXIncB : Statement .ldMemXIncB := rfl

theorem ldMemYIncA : Statement .ldMemYIncA := rfl

theorem ldMemYIncB : Statement .ldMemYIncB := rfl

theorem ldMemXImm4 (i : Nibble) : Statement (.ldMemXImm4 i) := prefix9 _ _

theorem ldMemYImm4 (i : Nibble) : Statement (.ldMemYImm4 i) := prefix9 _ _

theorem ldMemXIncImm4 (i : Nibble) : Statement (.ldMemXIncImm4 i) := prefix9 _ _

theorem ldMemYIncImm4 (i : Nibble) : Statement (.ldMemYIncImm4 i) := prefix9 _ _

theorem ldMemXMemY : Statement .ldMemXMemY := rfl

theorem ldMemYMemX : Statement .ldMemYMemX := rfl

theorem ldMemXMemYInc : Statement .ldMemXMemYInc := rfl

theorem ldMemYMemXInc : Statement .ldMemYMemXInc := rfl

theorem ldMemXIncMemY : Statement .ldMemXIncMemY := rfl

theorem ldMemYIncMemX : Statement .ldMemYIncMemX := rfl

theorem ldMemXIncMemYInc : Statement .ldMemXIncMemYInc := rfl

theorem ldMemYIncMemXInc : Statement .ldMemYIncMemXInc := rfl

theorem ldbBAImm8 (i : Byte) : Statement (.ldbBAImm8 i) := prefix5 _ _

theorem ldbBAMemXInc : Statement .ldbBAMemXInc := rfl

theorem ldbBAMemYInc : Statement .ldbBAMemYInc := rfl

theorem ldbBAEXT : Statement .ldbBAEXT := rfl

theorem ldbBAXL : Statement .ldbBAXL := rfl

theorem ldbBAXH : Statement .ldbBAXH := rfl

theorem ldbBAYL : Statement .ldbBAYL := rfl

theorem ldbBAYH : Statement .ldbBAYH := rfl

theorem ldbBASP1 : Statement .ldbBASP1 := rfl

theorem ldbBASP2 : Statement .ldbBASP2 := rfl

theorem ldbMemXIncBA : Statement .ldbMemXIncBA := rfl

theorem ldbMemYIncBA : Statement .ldbMemYIncBA := rfl

theorem ldbMemXIncImm8 (i : Byte) : Statement (.ldbMemXIncImm8 i) := prefix5 _ _

theorem ldbEXTImm8 (i : Byte) : Statement (.ldbEXTImm8 i) := prefix5 _ _

theorem ldbEXTBA : Statement .ldbEXTBA := rfl

theorem ldbXLImm8 (i : Byte) : Statement (.ldbXLImm8 i) := prefix5 _ _

theorem ldbYLImm8 (i : Byte) : Statement (.ldbYLImm8 i) := prefix5 _ _

theorem ldbXLBA : Statement .ldbXLBA := rfl

theorem ldbXHBA : Statement .ldbXHBA := rfl

theorem ldbYLBA : Statement .ldbYLBA := rfl

theorem ldbYHBA : Statement .ldbYHBA := rfl

theorem ldbSP1BA : Statement .ldbSP1BA := rfl

theorem ldbSP2BA : Statement .ldbSP2BA := rfl

theorem nop : Statement .nop := rfl

theorem orAA : Statement .orAA := rfl

theorem orAB : Statement .orAB := rfl

theorem orBA : Statement .orBA := rfl

theorem orBB : Statement .orBB := rfl

theorem orAImm4 (i : Nibble) : Statement (.orAImm4 i) := prefix9 _ _

theorem orBImm4 (i : Nibble) : Statement (.orBImm4 i) := prefix9 _ _

theorem orFImm4 (i : Nibble) : Statement (.orFImm4 i) := prefix9 _ _

theorem orAMemX : Statement .orAMemX := rfl

theorem orAMemY : Statement .orAMemY := rfl

theorem orBMemX : Statement .orBMemX := rfl

theorem orBMemY : Statement .orBMemY := rfl

theorem orAMemXInc : Statement .orAMemXInc := rfl

theorem orAMemYInc : Statement .orAMemYInc := rfl

theorem orBMemXInc : Statement .orBMemXInc := rfl

theorem orBMemYInc : Statement .orBMemYInc := rfl

theorem orMemXA : Statement .orMemXA := rfl

theorem orMemXB : Statement .orMemXB := rfl

theorem orMemYA : Statement .orMemYA := rfl

theorem orMemYB : Statement .orMemYB := rfl

theorem orMemXIncA : Statement .orMemXIncA := rfl

theorem orMemXIncB : Statement .orMemXIncB := rfl

theorem orMemYIncA : Statement .orMemYIncA := rfl

theorem orMemYIncB : Statement .orMemYIncB := rfl

theorem orMemXImm4 (i : Nibble) : Statement (.orMemXImm4 i) := prefix9 _ _

theorem orMemYImm4 (i : Nibble) : Statement (.orMemYImm4 i) := prefix9 _ _

theorem orMemXIncImm4 (i : Nibble) : Statement (.orMemXIncImm4 i) := prefix9 _ _

theorem orMemYIncImm4 (i : Nibble) : Statement (.orMemYIncImm4 i) := prefix9 _ _

theorem popA : Statement .popA := rfl

theorem popB : Statement .popB := rfl

theorem popF : Statement .popF := rfl

theorem pushA : Statement .pushA := rfl

theorem pushB : Statement .pushB := rfl

theorem pushF : Statement .pushF := rfl

theorem popX : Statement .popX := rfl

theorem popY : Statement .popY := rfl

theorem pushX : Statement .pushX := rfl

theorem pushY : Statement .pushY := rfl

theorem ret : Statement .ret := rfl

theorem retdImm8 (i : Byte) : Statement (.retdImm8 i) := prefix5 _ _

theorem reti : Statement .reti := rfl

theorem rlA : Statement .rlA := rfl

theorem rlB : Statement .rlB := rfl

theorem rets : Statement .rets := rfl

theorem rlMemX : Statement .rlMemX := rfl

theorem rlMemY : Statement .rlMemY := rfl

theorem rlMemXInc : Statement .rlMemXInc := rfl

theorem rlMemYInc : Statement .rlMemYInc := rfl

theorem rrA : Statement .rrA := rfl

theorem rrB : Statement .rrB := rfl

theorem rrMemX : Statement .rrMemX := rfl

theorem rrMemY : Statement .rrMemY := rfl

theorem rrMemXInc : Statement .rrMemXInc := rfl

theorem rrMemYInc : Statement .rrMemYInc := rfl

theorem sbcAA : Statement .sbcAA := rfl

theorem sbcAB : Statement .sbcAB := rfl

theorem sbcBA : Statement .sbcBA := rfl

theorem sbcBB : Statement .sbcBB := rfl

theorem sbcAImm4 (i : Nibble) : Statement (.sbcAImm4 i) := prefix9 _ _

theorem sbcBImm4 (i : Nibble) : Statement (.sbcBImm4 i) := prefix9 _ _

theorem sbcAMemX : Statement .sbcAMemX := rfl

theorem sbcAMemY : Statement .sbcAMemY := rfl

theorem sbcBMemX : Statement .sbcBMemX := rfl

theorem sbcBMemY : Statement .sbcBMemY := rfl

theorem sbcAMemXInc : Statement .sbcAMemXInc := rfl

theorem sbcAMemYInc : Statement .sbcAMemYInc := rfl

theorem sbcBMemXInc : Statement .sbcBMemXInc := rfl

theorem sbcBMemYInc : Statement .sbcBMemYInc := rfl

theorem sbcMemXA : Statement .sbcMemXA := rfl

theorem sbcMemXB : Statement .sbcMemXB := rfl

theorem sbcMemYA : Statement .sbcMemYA := rfl

theorem sbcMemYB : Statement .sbcMemYB := rfl

theorem sbcMemXIncA : Statement .sbcMemXIncA := rfl

theorem sbcMemXIncB : Statement .sbcMemXIncB := rfl

theorem sbcMemYIncA : Statement .sbcMemYIncA := rfl

theorem sbcMemYIncB : Statement .sbcMemYIncB := rfl

theorem sbcMemXImm4 (i : Nibble) : Statement (.sbcMemXImm4 i) := prefix9 _ _

theorem sbcMemYImm4 (i : Nibble) : Statement (.sbcMemYImm4 i) := prefix9 _ _

theorem sbcMemXIncImm4 (i : Nibble) : Statement (.sbcMemXIncImm4 i) := prefix9 _ _

theorem sbcMemYIncImm4 (i : Nibble) : Statement (.sbcMemYIncImm4 i) := prefix9 _ _

theorem sbcBAN4 (n : Nat) : Statement (.sbcBAN4 n) := prefix9 _ _

theorem sbcBMemXN4 (n : Nat) : Statement (.sbcBMemXN4 n) := prefix9 _ _

theorem sbcBMemYN4 (n : Nat) : Statement (.sbcBMemYN4 n) := prefix9 _ _

theorem sbcBMemXIncN4 (n : Nat) : Statement (.sbcBMemXIncN4 n) := prefix9 _ _

theorem sbcBMemYIncN4 (n : Nat) : Statement (.sbcBMemYIncN4 n) := prefix9 _ _

theorem sbcMemXBN4 (n : Nat) : Statement (.sbcMemXBN4 n) := prefix9 _ _

theorem sbcMemYBN4 (n : Nat) : Statement (.sbcMemYBN4 n) := prefix9 _ _

theorem sbcMemXIncBN4 (n : Nat) : Statement (.sbcMemXIncBN4 n) := prefix9 _ _

theorem sbcMemYIncBN4 (n : Nat) : Statement (.sbcMemYIncBN4 n) := prefix9 _ _

theorem sbcMemXZeroN4 (n : Nat) : Statement (.sbcMemXZeroN4 n) := prefix9 _ _

theorem sbcMemYZeroN4 (n : Nat) : Statement (.sbcMemYZeroN4 n) := prefix9 _ _

theorem sbcMemXIncZeroN4 (n : Nat) : Statement (.sbcMemXIncZeroN4 n) := prefix9 _ _

theorem sbcMemYIncZeroN4 (n : Nat) : Statement (.sbcMemYIncZeroN4 n) := prefix9 _ _

theorem setMem00Addr6Imm2 (a : BitVec 6) (b : BitVec 2) : Statement (.setMem00Addr6Imm2 a b) := prefix52 _ _ _

theorem setMemFFAddr6Imm2 (a : BitVec 6) (b : BitVec 2) : Statement (.setMemFFAddr6Imm2 a b) := prefix52 _ _ _

theorem sllA : Statement .sllA := rfl

theorem sllB : Statement .sllB := rfl

theorem sllMemXInc : Statement .sllMemXInc := rfl

theorem sllMemYInc : Statement .sllMemYInc := rfl

theorem sllMemX : Statement .sllMemX := rfl

theorem sllMemY : Statement .sllMemY := rfl

theorem slp : Statement .slp := rfl

theorem srlA : Statement .srlA := rfl

theorem srlB : Statement .srlB := rfl

theorem srlMemX : Statement .srlMemX := rfl

theorem srlMemY : Statement .srlMemY := rfl

theorem srlMemXInc : Statement .srlMemXInc := rfl

theorem srlMemYInc : Statement .srlMemYInc := rfl

theorem subAA : Statement .subAA := rfl

theorem subAB : Statement .subAB := rfl

theorem subBA : Statement .subBA := rfl

theorem subBB : Statement .subBB := rfl

theorem subAImm4 (i : Nibble) : Statement (.subAImm4 i) := prefix9 _ _

theorem subBImm4 (i : Nibble) : Statement (.subBImm4 i) := prefix9 _ _

theorem subAMemXInc : Statement .subAMemXInc := rfl

theorem subAMemYInc : Statement .subAMemYInc := rfl

theorem subBMemXInc : Statement .subBMemXInc := rfl

theorem subBMemYInc : Statement .subBMemYInc := rfl

theorem subAMemX : Statement .subAMemX := rfl

theorem subAMemY : Statement .subAMemY := rfl

theorem subBMemX : Statement .subBMemX := rfl

theorem subBMemY : Statement .subBMemY := rfl

theorem subMemXIncA : Statement .subMemXIncA := rfl

theorem subMemXIncB : Statement .subMemXIncB := rfl

theorem subMemYIncA : Statement .subMemYIncA := rfl

theorem subMemYIncB : Statement .subMemYIncB := rfl

theorem subMemXA : Statement .subMemXA := rfl

theorem subMemXB : Statement .subMemXB := rfl

theorem subMemYA : Statement .subMemYA := rfl

theorem subMemYB : Statement .subMemYB := rfl

theorem subMemXImm4 (i : Nibble) : Statement (.subMemXImm4 i) := prefix9 _ _

theorem subMemYImm4 (i : Nibble) : Statement (.subMemYImm4 i) := prefix9 _ _

theorem subMemXIncImm4 (i : Nibble) : Statement (.subMemXIncImm4 i) := prefix9 _ _

theorem subMemYIncImm4 (i : Nibble) : Statement (.subMemYIncImm4 i) := prefix9 _ _

theorem xorAA : Statement .xorAA := rfl

theorem xorAB : Statement .xorAB := rfl

theorem xorBA : Statement .xorBA := rfl

theorem xorBB : Statement .xorBB := rfl

theorem tstMem00Addr6Imm2 (a : BitVec 6) (b : BitVec 2) : Statement (.tstMem00Addr6Imm2 a b) := prefix52 _ _ _

theorem tstMemFFAddr6Imm2 (a : BitVec 6) (b : BitVec 2) : Statement (.tstMemFFAddr6Imm2 a b) := prefix52 _ _ _

theorem xorAImm4 (i : Nibble) : Statement (.xorAImm4 i) := prefix9 _ _

theorem xorBImm4 (i : Nibble) : Statement (.xorBImm4 i) := prefix9 _ _

theorem xorFImm4 (i : Nibble) : Statement (.xorFImm4 i) := prefix9 _ _

theorem xorAMemX : Statement .xorAMemX := rfl

theorem xorAMemY : Statement .xorAMemY := rfl

theorem xorBMemX : Statement .xorBMemX := rfl

theorem xorBMemY : Statement .xorBMemY := rfl

theorem xorAMemXInc : Statement .xorAMemXInc := rfl

theorem xorAMemYInc : Statement .xorAMemYInc := rfl

theorem xorBMemXInc : Statement .xorBMemXInc := rfl

theorem xorBMemYInc : Statement .xorBMemYInc := rfl

theorem xorMemXA : Statement .xorMemXA := rfl

theorem xorMemXB : Statement .xorMemXB := rfl

theorem xorMemYA : Statement .xorMemYA := rfl

theorem xorMemYB : Statement .xorMemYB := rfl

theorem xorMemXIncA : Statement .xorMemXIncA := rfl

theorem xorMemXIncB : Statement .xorMemXIncB := rfl

theorem xorMemYIncA : Statement .xorMemYIncA := rfl

theorem xorMemYIncB : Statement .xorMemYIncB := rfl

theorem xorMemXImm4 (i : Nibble) : Statement (.xorMemXImm4 i) := prefix9 _ _

theorem xorMemYImm4 (i : Nibble) : Statement (.xorMemYImm4 i) := prefix9 _ _

theorem xorMemXIncImm4 (i : Nibble) : Statement (.xorMemXIncImm4 i) := prefix9 _ _

theorem xorMemYIncImm4 (i : Nibble) : Statement (.xorMemYIncImm4 i) := prefix9 _ _

end Sys2Proof.Laws.TableRow
end

