-- ==== Sys2Proof/Tests/Slice0.lean ====
section
/-! SUPPORT. Tests whose expected results come from spec/ (the worked examples and vectors of spec/95_test_vectors.md and
spec/96_test_vectors_families.md, the encodings of spec/opcode_table.json), and for every statement with hypotheses a witness
that meets them. -/

namespace Sys2Proof.Tests

open Sys2Proof Sys2Proof.Machine

/-! ### Well-formedness: the one check, a radix from 1 to 16 (R182) -/

/-- Radix 0 and radix 17 are refused in every form that has a radix. -/
theorem test_radix_out_of_range_refused :
    ∀ n ∈ [0, 17], ∀ k ∈ [Idx.x, Idx.y],
      (∀ op ∈ [RadixOp.adc, RadixOp.sbc], (op.regReg n).wellFormed = false ∧ (op.regMem k n).wellFormed = false ∧
        (op.memReg k n).wellFormed = false ∧ (op.memZero k n).wellFormed = false ∧
        (op.regMemInc k n).wellFormed = false ∧ (op.memIncReg k n).wellFormed = false ∧
        (op.memIncZero k n).wellFormed = false) ∧
      ∀ op ∈ [StepOp.inc, StepOp.dec], (op.mem k n).wellFormed = false ∧ (op.memInc k n).wellFormed = false := by decide

/-- Radix 1 and radix 16 are accepted. -/
theorem test_radix_bounds_accepted :
    (Instr.adcBAN4 1).wellFormed = true ∧ (Instr.adcBAN4 16).wellFormed = true ∧
    (Instr.decMemYIncN4 1).wellFormed = true ∧ (Instr.decMemYIncN4 16).wellFormed = true := by decide

/-! ### Decoding: the codes of the opcode table, and words that are none -/

/-- Don't-care bits, reserved neighbours, and the radix fields at their ends (R74, R75, R79, R80). -/
theorem test_decode_edges :
    decode 0x1871#13 = some .subAA ∧ decode 0x1973#13 = some .addAB ∧ decode 0x1FC5#13 = some .ldbSP1BA ∧
    decode 0x1FF3#13 = some .jpY ∧ decode 0x1FFA#13 = some .ret ∧ decode 0x1FF4#13 = none ∧ decode 0x1878#13 = none ∧
    decode 0x1E71#13 = none ∧ decode 0x1FDF#13 = none ∧ decode 0x10C0#13 = some (.sbcBAN4 16) ∧
    decode 0x10D0#13 = some (.adcBAN4 16) ∧ decode 0x10DF#13 = some (.adcBAN4 1) ∧
    decode 0x10C1#13 = some (.sbcBAN4 1) ∧ decode 0x0FFF#13 = some (.cmpYImm8 0#8) := by decide

/-- The host's view of a code: the low 13 bits of the table's word. -/
theorem test_table_words : decodeTableWord 16 0x1972 = some .addAB ∧ decodeTableWord 16 0x1FF4 = none := by decide

/-- Codes of EX %A,%B to LD [%Y],%B, each bit from the rows of spec/opcode_table.json. -/
theorem test_decode_transfer_4bit_a :
    decode 0b1111111110111#13 = some .exAB ∧ decode 0b1000011111000#13 = some .exAMemX ∧
    decode 0b1000011111010#13 = some .exAMemY ∧ decode 0b1000011111100#13 = some .exBMemX ∧
    decode 0b1000011111110#13 = some .exBMemY ∧ decode 0b1000011111001#13 = some .exAMemXInc ∧
    decode 0b1000011111011#13 = some .exAMemYInc ∧ decode 0b1000011111101#13 = some .exBMemXInc ∧
    decode 0b1000011111111#13 = some .exBMemYInc ∧ decode 0b1111011110000#13 = some .ldAA ∧
    decode 0b1111011110010#13 = some .ldAB ∧ decode 0b1111111110110#13 = some .ldAF ∧
    decode 0b1111011110100#13 = some .ldBA ∧ decode 0b1111011110110#13 = some .ldBB ∧
    decode 0b1111111110101#13 = some .ldFA ∧ decode 0b1111011001011#13 = some (.ldAImm4 0b1011#4) ∧
    decode 0b1111011011011#13 = some (.ldBImm4 0b1011#4) ∧ decode 0b1000010111011#13 = some (.ldFImm4 0b1011#4) ∧
    decode 0b1111011100000#13 = some .ldAMemX ∧ decode 0b1111011100010#13 = some .ldAMemY ∧
    decode 0b1111011100100#13 = some .ldBMemX ∧ decode 0b1111011100110#13 = some .ldBMemY ∧
    decode 0b1111011100001#13 = some .ldAMemXInc ∧ decode 0b1111011100011#13 = some .ldAMemYInc ∧
    decode 0b1111011100101#13 = some .ldBMemXInc ∧ decode 0b1111011100111#13 = some .ldBMemYInc ∧
    decode 0b1111011101000#13 = some .ldMemXA ∧ decode 0b1111011101100#13 = some .ldMemXB ∧
    decode 0b1111011101010#13 = some .ldMemYA ∧ decode 0b1111011101110#13 = some .ldMemYB :=
  ⟨rfl, rfl, rfl, rfl, rfl, rfl, rfl, rfl, rfl, rfl, rfl, rfl, rfl, rfl, rfl, rfl, rfl, rfl, rfl, rfl, rfl, rfl, rfl, rfl, rfl, rfl, rfl, rfl, rfl, rfl⟩

/-- Codes of LD [%X]+,%A to LD [%Y]+,[%X]+, each bit from the rows of spec/opcode_table.json. -/
theorem test_decode_transfer_4bit_b :
    decode 0b1111011101001#13 = some .ldMemXIncA ∧ decode 0b1111011101101#13 = some .ldMemXIncB ∧
    decode 0b1111011101011#13 = some .ldMemYIncA ∧ decode 0b1111011101111#13 = some .ldMemYIncB ∧
    decode 0b1111010001011#13 = some (.ldMemXImm4 0b1011#4) ∧ decode 0b1111010101011#13 = some (.ldMemYImm4 0b1011#4) ∧
    decode 0b1111010011011#13 = some (.ldMemXIncImm4 0b1011#4) ∧
    decode 0b1111010111011#13 = some (.ldMemYIncImm4 0b1011#4) ∧ decode 0b1111011111010#13 = some .ldMemXMemY ∧
    decode 0b1111011111000#13 = some .ldMemYMemX ∧ decode 0b1111011111011#13 = some .ldMemXMemYInc ∧
    decode 0b1111011111001#13 = some .ldMemYMemXInc ∧ decode 0b1111011111110#13 = some .ldMemXIncMemY ∧
    decode 0b1111011111100#13 = some .ldMemYIncMemX ∧ decode 0b1111011111111#13 = some .ldMemXIncMemYInc ∧
    decode 0b1111011111101#13 = some .ldMemYIncMemXInc :=
  ⟨rfl, rfl, rfl, rfl, rfl, rfl, rfl, rfl, rfl, rfl, rfl, rfl, rfl, rfl, rfl, rfl⟩

/-- Codes of ADC %A,%A to ADD %B,%B, each bit from the rows of spec/opcode_table.json. -/
theorem test_decode_arithmetic_a :
    decode 0b1100111110000#13 = some .adcAA ∧ decode 0b1100111110010#13 = some .adcAB ∧
    decode 0b1100111110100#13 = some .adcBA ∧ decode 0b1100111110110#13 = some .adcBB ∧
    decode 0b1100111001011#13 = some (.adcAImm4 0b1011#4) ∧ decode 0b1100111011011#13 = some (.adcBImm4 0b1011#4) ∧
    decode 0b1100111100000#13 = some .adcAMemX ∧ decode 0b1100111100010#13 = some .adcAMemY ∧
    decode 0b1100111100100#13 = some .adcBMemX ∧ decode 0b1100111100110#13 = some .adcBMemY ∧
    decode 0b1100111100001#13 = some .adcAMemXInc ∧ decode 0b1100111100011#13 = some .adcAMemYInc ∧
    decode 0b1100111100101#13 = some .adcBMemXInc ∧ decode 0b1100111100111#13 = some .adcBMemYInc ∧
    decode 0b1100111101000#13 = some .adcMemXA ∧ decode 0b1100111101100#13 = some .adcMemXB ∧
    decode 0b1100111101010#13 = some .adcMemYA ∧ decode 0b1100111101110#13 = some .adcMemYB ∧
    decode 0b1100111101001#13 = some .adcMemXIncA ∧ decode 0b1100111101101#13 = some .adcMemXIncB ∧
    decode 0b1100111101011#13 = some .adcMemYIncA ∧ decode 0b1100111101111#13 = some .adcMemYIncB ∧
    decode 0b1100110001011#13 = some (.adcMemXImm4 0b1011#4) ∧ decode 0b1100110101011#13 = some (.adcMemYImm4 0b1011#4) ∧
    decode 0b1100110011011#13 = some (.adcMemXIncImm4 0b1011#4) ∧
    decode 0b1100110111011#13 = some (.adcMemYIncImm4 0b1011#4) ∧ decode 0b1100101110000#13 = some .addAA ∧
    decode 0b1100101110010#13 = some .addAB ∧ decode 0b1100101110100#13 = some .addBA ∧
    decode 0b1100101110110#13 = some .addBB :=
  ⟨rfl, rfl, rfl, rfl, rfl, rfl, rfl, rfl, rfl, rfl, rfl, rfl, rfl, rfl, rfl, rfl, rfl, rfl, rfl, rfl, rfl, rfl, rfl, rfl, rfl, rfl, rfl, rfl, rfl, rfl⟩

/-- Codes of ADD %A,imm4 to CMP %A,[%Y], each bit from the rows of spec/opcode_table.json. -/
theorem test_decode_arithmetic_b :
    decode 0b1100101001011#13 = some (.addAImm4 0b1011#4) ∧ decode 0b1100101011011#13 = some (.addBImm4 0b1011#4) ∧
    decode 0b1100101100000#13 = some .addAMemX ∧ decode 0b1100101100010#13 = some .addAMemY ∧
    decode 0b1100101100100#13 = some .addBMemX ∧ decode 0b1100101100110#13 = some .addBMemY ∧
    decode 0b1100101100001#13 = some .addAMemXInc ∧ decode 0b1100101100011#13 = some .addAMemYInc ∧
    decode 0b1100101100101#13 = some .addBMemXInc ∧ decode 0b1100101100111#13 = some .addBMemYInc ∧
    decode 0b1100101101000#13 = some .addMemXA ∧ decode 0b1100101101100#13 = some .addMemXB ∧
    decode 0b1100101101010#13 = some .addMemYA ∧ decode 0b1100101101110#13 = some .addMemYB ∧
    decode 0b1100101101001#13 = some .addMemXIncA ∧ decode 0b1100101101101#13 = some .addMemXIncB ∧
    decode 0b1100101101011#13 = some .addMemYIncA ∧ decode 0b1100101101111#13 = some .addMemYIncB ∧
    decode 0b1100100001011#13 = some (.addMemXImm4 0b1011#4) ∧ decode 0b1100100101011#13 = some (.addMemYImm4 0b1011#4) ∧
    decode 0b1100100011011#13 = some (.addMemXIncImm4 0b1011#4) ∧
    decode 0b1100100111011#13 = some (.addMemYIncImm4 0b1011#4) ∧ decode 0b1111001001011#13 = some (.cmpAImm4 0b1011#4) ∧
    decode 0b1111001011011#13 = some (.cmpBImm4 0b1011#4) ∧ decode 0b1111001110000#13 = some .cmpAA ∧
    decode 0b1111001110010#13 = some .cmpAB ∧ decode 0b1111001110100#13 = some .cmpBA ∧
    decode 0b1111001110110#13 = some .cmpBB ∧ decode 0b1111001100000#13 = some .cmpAMemX ∧
    decode 0b1111001100010#13 = some .cmpAMemY :=
  ⟨rfl, rfl, rfl, rfl, rfl, rfl, rfl, rfl, rfl, rfl, rfl, rfl, rfl, rfl, rfl, rfl, rfl, rfl, rfl, rfl, rfl, rfl, rfl, rfl, rfl, rfl, rfl, rfl, rfl, rfl⟩

/-- Codes of CMP %B,[%X] to SBC %B,[%Y], each bit from the rows of spec/opcode_table.json. -/
theorem test_decode_arithmetic_c :
    decode 0b1111001100100#13 = some .cmpBMemX ∧ decode 0b1111001100110#13 = some .cmpBMemY ∧
    decode 0b1111001100001#13 = some .cmpAMemXInc ∧ decode 0b1111001100011#13 = some .cmpAMemYInc ∧
    decode 0b1111001100101#13 = some .cmpBMemXInc ∧ decode 0b1111001100111#13 = some .cmpBMemYInc ∧
    decode 0b1111001101001#13 = some .cmpMemXIncA ∧ decode 0b1111001101101#13 = some .cmpMemXIncB ∧
    decode 0b1111001101011#13 = some .cmpMemYIncA ∧ decode 0b1111001101111#13 = some .cmpMemYIncB ∧
    decode 0b1111001101000#13 = some .cmpMemXA ∧ decode 0b1111001101100#13 = some .cmpMemXB ∧
    decode 0b1111001101010#13 = some .cmpMemYA ∧ decode 0b1111001101110#13 = some .cmpMemYB ∧
    decode 0b1111000011011#13 = some (.cmpMemXIncImm4 0b1011#4) ∧
    decode 0b1111000111011#13 = some (.cmpMemYIncImm4 0b1011#4) ∧ decode 0b1111000001011#13 = some (.cmpMemXImm4 0b1011#4) ∧
    decode 0b1111000101011#13 = some (.cmpMemYImm4 0b1011#4) ∧ decode 0b1000000101101#13 = some (.decMemAddr6 0x2D#6) ∧
    decode 0b1000001101101#13 = some (.incMemAddr6 0x2D#6) ∧ decode 0b1100011110000#13 = some .sbcAA ∧
    decode 0b1100011110010#13 = some .sbcAB ∧ decode 0b1100011110100#13 = some .sbcBA ∧
    decode 0b1100011110110#13 = some .sbcBB ∧ decode 0b1100011001011#13 = some (.sbcAImm4 0b1011#4) ∧
    decode 0b1100011011011#13 = some (.sbcBImm4 0b1011#4) ∧ decode 0b1100011100000#13 = some .sbcAMemX ∧
    decode 0b1100011100010#13 = some .sbcAMemY ∧ decode 0b1100011100100#13 = some .sbcBMemX ∧
    decode 0b1100011100110#13 = some .sbcBMemY :=
  ⟨rfl, rfl, rfl, rfl, rfl, rfl, rfl, rfl, rfl, rfl, rfl, rfl, rfl, rfl, rfl, rfl, rfl, rfl, rfl, rfl, rfl, rfl, rfl, rfl, rfl, rfl, rfl, rfl, rfl, rfl⟩

/-- Codes of SBC %A,[%X]+ to SUB %B,[%Y], each bit from the rows of spec/opcode_table.json. -/
theorem test_decode_arithmetic_d :
    decode 0b1100011100001#13 = some .sbcAMemXInc ∧ decode 0b1100011100011#13 = some .sbcAMemYInc ∧
    decode 0b1100011100101#13 = some .sbcBMemXInc ∧ decode 0b1100011100111#13 = some .sbcBMemYInc ∧
    decode 0b1100011101000#13 = some .sbcMemXA ∧ decode 0b1100011101100#13 = some .sbcMemXB ∧
    decode 0b1100011101010#13 = some .sbcMemYA ∧ decode 0b1100011101110#13 = some .sbcMemYB ∧
    decode 0b1100011101001#13 = some .sbcMemXIncA ∧ decode 0b1100011101101#13 = some .sbcMemXIncB ∧
    decode 0b1100011101011#13 = some .sbcMemYIncA ∧ decode 0b1100011101111#13 = some .sbcMemYIncB ∧
    decode 0b1100010001011#13 = some (.sbcMemXImm4 0b1011#4) ∧ decode 0b1100010101011#13 = some (.sbcMemYImm4 0b1011#4) ∧
    decode 0b1100010011011#13 = some (.sbcMemXIncImm4 0b1011#4) ∧
    decode 0b1100010111011#13 = some (.sbcMemYIncImm4 0b1011#4) ∧ decode 0b1100001110000#13 = some .subAA ∧
    decode 0b1100001110010#13 = some .subAB ∧ decode 0b1100001110100#13 = some .subBA ∧
    decode 0b1100001110110#13 = some .subBB ∧ decode 0b1100001001011#13 = some (.subAImm4 0b1011#4) ∧
    decode 0b1100001011011#13 = some (.subBImm4 0b1011#4) ∧ decode 0b1100001100001#13 = some .subAMemXInc ∧
    decode 0b1100001100011#13 = some .subAMemYInc ∧ decode 0b1100001100101#13 = some .subBMemXInc ∧
    decode 0b1100001100111#13 = some .subBMemYInc ∧ decode 0b1100001100000#13 = some .subAMemX ∧
    decode 0b1100001100010#13 = some .subAMemY ∧ decode 0b1100001100100#13 = some .subBMemX ∧
    decode 0b1100001100110#13 = some .subBMemY :=
  ⟨rfl, rfl, rfl, rfl, rfl, rfl, rfl, rfl, rfl, rfl, rfl, rfl, rfl, rfl, rfl, rfl, rfl, rfl, rfl, rfl, rfl, rfl, rfl, rfl, rfl, rfl, rfl, rfl, rfl, rfl⟩

/-- Codes of SUB [%X]+,%A to SUB [%Y]+,imm4, each bit from the rows of spec/opcode_table.json. -/
theorem test_decode_arithmetic_e :
    decode 0b1100001101001#13 = some .subMemXIncA ∧ decode 0b1100001101101#13 = some .subMemXIncB ∧
    decode 0b1100001101011#13 = some .subMemYIncA ∧ decode 0b1100001101111#13 = some .subMemYIncB ∧
    decode 0b1100001101000#13 = some .subMemXA ∧ decode 0b1100001101100#13 = some .subMemXB ∧
    decode 0b1100001101010#13 = some .subMemYA ∧ decode 0b1100001101110#13 = some .subMemYB ∧
    decode 0b1100000001011#13 = some (.subMemXImm4 0b1011#4) ∧ decode 0b1100000101011#13 = some (.subMemYImm4 0b1011#4) ∧
    decode 0b1100000011011#13 = some (.subMemXIncImm4 0b1011#4) ∧
    decode 0b1100000111011#13 = some (.subMemYIncImm4 0b1011#4) :=
  ⟨rfl, rfl, rfl, rfl, rfl, rfl, rfl, rfl, rfl, rfl, rfl, rfl⟩

/-- Codes of ADC %B,%A,n4 to SBC [%Y]+,%B,n4, each bit from the rows of spec/opcode_table.json. -/
theorem test_decode_radix_a :
    decode 0b1000011010110#13 = some (.adcBAN4 10) ∧ decode 0b1110111000110#13 = some (.adcBMemXN4 10) ∧
    decode 0b1110111100110#13 = some (.adcBMemYN4 10) ∧ decode 0b1110101000110#13 = some (.adcMemXBN4 10) ∧
    decode 0b1110101100110#13 = some (.adcMemYBN4 10) ∧ decode 0b1110111010110#13 = some (.adcBMemXIncN4 10) ∧
    decode 0b1110111110110#13 = some (.adcBMemYIncN4 10) ∧ decode 0b1110101010110#13 = some (.adcMemXIncBN4 10) ∧
    decode 0b1110101110110#13 = some (.adcMemYIncBN4 10) ∧ decode 0b1110100000110#13 = some (.adcMemXZeroN4 10) ∧
    decode 0b1110100100110#13 = some (.adcMemYZeroN4 10) ∧ decode 0b1110100010110#13 = some (.adcMemXIncZeroN4 10) ∧
    decode 0b1110100110110#13 = some (.adcMemYIncZeroN4 10) ∧ decode 0b1110010001010#13 = some (.decMemXN4 10) ∧
    decode 0b1110010101010#13 = some (.decMemYN4 10) ∧ decode 0b1110010011010#13 = some (.decMemXIncN4 10) ∧
    decode 0b1110010111010#13 = some (.decMemYIncN4 10) ∧ decode 0b1110110000110#13 = some (.incMemXN4 10) ∧
    decode 0b1110110100110#13 = some (.incMemYN4 10) ∧ decode 0b1110110010110#13 = some (.incMemXIncN4 10) ∧
    decode 0b1110110110110#13 = some (.incMemYIncN4 10) ∧ decode 0b1000011001010#13 = some (.sbcBAN4 10) ∧
    decode 0b1110011001010#13 = some (.sbcBMemXN4 10) ∧ decode 0b1110011101010#13 = some (.sbcBMemYN4 10) ∧
    decode 0b1110011011010#13 = some (.sbcBMemXIncN4 10) ∧ decode 0b1110011111010#13 = some (.sbcBMemYIncN4 10) ∧
    decode 0b1110001001010#13 = some (.sbcMemXBN4 10) ∧ decode 0b1110001101010#13 = some (.sbcMemYBN4 10) ∧
    decode 0b1110001011010#13 = some (.sbcMemXIncBN4 10) ∧ decode 0b1110001111010#13 = some (.sbcMemYIncBN4 10) :=
  ⟨rfl, rfl, rfl, rfl, rfl, rfl, rfl, rfl, rfl, rfl, rfl, rfl, rfl, rfl, rfl, rfl, rfl, rfl, rfl, rfl, rfl, rfl, rfl, rfl, rfl, rfl, rfl, rfl, rfl, rfl⟩

/-- Codes of SBC [%X],0,n4 to SBC [%Y]+,0,n4, each bit from the rows of spec/opcode_table.json. -/
theorem test_decode_radix_b :
    decode 0b1110000001010#13 = some (.sbcMemXZeroN4 10) ∧ decode 0b1110000101010#13 = some (.sbcMemYZeroN4 10) ∧
    decode 0b1110000011010#13 = some (.sbcMemXIncZeroN4 10) ∧ decode 0b1110000111010#13 = some (.sbcMemYIncZeroN4 10) :=
  ⟨rfl, rfl, rfl, rfl⟩

/-- Codes of AND %A,%A to BIT %B,%A, each bit from the rows of spec/opcode_table.json. -/
theorem test_decode_logic_a :
    decode 0b1101001110000#13 = some .andAA ∧ decode 0b1101001110010#13 = some .andAB ∧
    decode 0b1101001110100#13 = some .andBA ∧ decode 0b1101001110110#13 = some .andBB ∧
    decode 0b1101001001011#13 = some (.andAImm4 0b1011#4) ∧ decode 0b1101001011011#13 = some (.andBImm4 0b1011#4) ∧
    decode 0b1000010001011#13 = some (.andFImm4 0b1011#4) ∧ decode 0b1101001100001#13 = some .andAMemXInc ∧
    decode 0b1101001100011#13 = some .andAMemYInc ∧ decode 0b1101001100101#13 = some .andBMemXInc ∧
    decode 0b1101001100111#13 = some .andBMemYInc ∧ decode 0b1101001100000#13 = some .andAMemX ∧
    decode 0b1101001100010#13 = some .andAMemY ∧ decode 0b1101001100100#13 = some .andBMemX ∧
    decode 0b1101001100110#13 = some .andBMemY ∧ decode 0b1101001101000#13 = some .andMemXA ∧
    decode 0b1101001101100#13 = some .andMemXB ∧ decode 0b1101001101010#13 = some .andMemYA ∧
    decode 0b1101001101110#13 = some .andMemYB ∧ decode 0b1101001101001#13 = some .andMemXIncA ∧
    decode 0b1101001101101#13 = some .andMemXIncB ∧ decode 0b1101001101011#13 = some .andMemYIncA ∧
    decode 0b1101001101111#13 = some .andMemYIncB ∧ decode 0b1101000001011#13 = some (.andMemXImm4 0b1011#4) ∧
    decode 0b1101000101011#13 = some (.andMemYImm4 0b1011#4) ∧ decode 0b1101000011011#13 = some (.andMemXIncImm4 0b1011#4) ∧
    decode 0b1101000111011#13 = some (.andMemYIncImm4 0b1011#4) ∧ decode 0b1101011110000#13 = some .bitAA ∧
    decode 0b1101011110010#13 = some .bitAB ∧ decode 0b1101011110100#13 = some .bitBA :=
  ⟨rfl, rfl, rfl, rfl, rfl, rfl, rfl, rfl, rfl, rfl, rfl, rfl, rfl, rfl, rfl, rfl, rfl, rfl, rfl, rfl, rfl, rfl, rfl, rfl, rfl, rfl, rfl, rfl, rfl, rfl⟩

/-- Codes of BIT %B,%B to OR %A,imm4, each bit from the rows of spec/opcode_table.json. -/
theorem test_decode_logic_b :
    decode 0b1101011110110#13 = some .bitBB ∧ decode 0b1101011001011#13 = some (.bitAImm4 0b1011#4) ∧
    decode 0b1101011011011#13 = some (.bitBImm4 0b1011#4) ∧ decode 0b1101011100001#13 = some .bitAMemXInc ∧
    decode 0b1101011100011#13 = some .bitAMemYInc ∧ decode 0b1101011100101#13 = some .bitBMemXInc ∧
    decode 0b1101011100111#13 = some .bitBMemYInc ∧ decode 0b1101011100000#13 = some .bitAMemX ∧
    decode 0b1101011100010#13 = some .bitAMemY ∧ decode 0b1101011100100#13 = some .bitBMemX ∧
    decode 0b1101011100110#13 = some .bitBMemY ∧ decode 0b1101011101000#13 = some .bitMemXA ∧
    decode 0b1101011101100#13 = some .bitMemXB ∧ decode 0b1101011101010#13 = some .bitMemYA ∧
    decode 0b1101011101110#13 = some .bitMemYB ∧ decode 0b1101011101001#13 = some .bitMemXIncA ∧
    decode 0b1101011101101#13 = some .bitMemXIncB ∧ decode 0b1101011101011#13 = some .bitMemYIncA ∧
    decode 0b1101011101111#13 = some .bitMemYIncB ∧ decode 0b1101010011011#13 = some (.bitMemXIncImm4 0b1011#4) ∧
    decode 0b1101010111011#13 = some (.bitMemYIncImm4 0b1011#4) ∧ decode 0b1101010001011#13 = some (.bitMemXImm4 0b1011#4) ∧
    decode 0b1101010101011#13 = some (.bitMemYImm4 0b1011#4) ∧
    decode 0b1010010101101#13 = some (.clrMem00Addr6Imm2 0x2D#6 2#2) ∧
    decode 0b1010110101101#13 = some (.clrMemFFAddr6Imm2 0x2D#6 2#2) ∧ decode 0b1101101110000#13 = some .orAA ∧
    decode 0b1101101110010#13 = some .orAB ∧ decode 0b1101101110100#13 = some .orBA ∧
    decode 0b1101101110110#13 = some .orBB ∧ decode 0b1101101001011#13 = some (.orAImm4 0b1011#4) :=
  ⟨rfl, rfl, rfl, rfl, rfl, rfl, rfl, rfl, rfl, rfl, rfl, rfl, rfl, rfl, rfl, rfl, rfl, rfl, rfl, rfl, rfl, rfl, rfl, rfl, rfl, rfl, rfl, rfl, rfl, rfl⟩

/-- Codes of OR %B,imm4 to TST [FFaddr6],imm2, each bit from the rows of spec/opcode_table.json. -/
theorem test_decode_logic_c :
    decode 0b1101101011011#13 = some (.orBImm4 0b1011#4) ∧ decode 0b1000010011011#13 = some (.orFImm4 0b1011#4) ∧
    decode 0b1101101100000#13 = some .orAMemX ∧ decode 0b1101101100010#13 = some .orAMemY ∧
    decode 0b1101101100100#13 = some .orBMemX ∧ decode 0b1101101100110#13 = some .orBMemY ∧
    decode 0b1101101100001#13 = some .orAMemXInc ∧ decode 0b1101101100011#13 = some .orAMemYInc ∧
    decode 0b1101101100101#13 = some .orBMemXInc ∧ decode 0b1101101100111#13 = some .orBMemYInc ∧
    decode 0b1101101101000#13 = some .orMemXA ∧ decode 0b1101101101100#13 = some .orMemXB ∧
    decode 0b1101101101010#13 = some .orMemYA ∧ decode 0b1101101101110#13 = some .orMemYB ∧
    decode 0b1101101101001#13 = some .orMemXIncA ∧ decode 0b1101101101101#13 = some .orMemXIncB ∧
    decode 0b1101101101011#13 = some .orMemYIncA ∧ decode 0b1101101101111#13 = some .orMemYIncB ∧
    decode 0b1101100001011#13 = some (.orMemXImm4 0b1011#4) ∧ decode 0b1101100101011#13 = some (.orMemYImm4 0b1011#4) ∧
    decode 0b1101100011011#13 = some (.orMemXIncImm4 0b1011#4) ∧
    decode 0b1101100111011#13 = some (.orMemYIncImm4 0b1011#4) ∧
    decode 0b1011010101101#13 = some (.setMem00Addr6Imm2 0x2D#6 2#2) ∧
    decode 0b1011110101101#13 = some (.setMemFFAddr6Imm2 0x2D#6 2#2) ∧ decode 0b1101111110000#13 = some .xorAA ∧
    decode 0b1101111110010#13 = some .xorAB ∧ decode 0b1101111110100#13 = some .xorBA ∧
    decode 0b1101111110110#13 = some .xorBB ∧ decode 0b1001010101101#13 = some (.tstMem00Addr6Imm2 0x2D#6 2#2) ∧
    decode 0b1001110101101#13 = some (.tstMemFFAddr6Imm2 0x2D#6 2#2) :=
  ⟨rfl, rfl, rfl, rfl, rfl, rfl, rfl, rfl, rfl, rfl, rfl, rfl, rfl, rfl, rfl, rfl, rfl, rfl, rfl, rfl, rfl, rfl, rfl, rfl, rfl, rfl, rfl, rfl, rfl, rfl⟩

/-- Codes of XOR %A,imm4 to XOR [%Y]+,imm4, each bit from the rows of spec/opcode_table.json. -/
theorem test_decode_logic_d :
    decode 0b1101111001011#13 = some (.xorAImm4 0b1011#4) ∧ decode 0b1101111011011#13 = some (.xorBImm4 0b1011#4) ∧
    decode 0b1000010101011#13 = some (.xorFImm4 0b1011#4) ∧ decode 0b1101111100000#13 = some .xorAMemX ∧
    decode 0b1101111100010#13 = some .xorAMemY ∧ decode 0b1101111100100#13 = some .xorBMemX ∧
    decode 0b1101111100110#13 = some .xorBMemY ∧ decode 0b1101111100001#13 = some .xorAMemXInc ∧
    decode 0b1101111100011#13 = some .xorAMemYInc ∧ decode 0b1101111100101#13 = some .xorBMemXInc ∧
    decode 0b1101111100111#13 = some .xorBMemYInc ∧ decode 0b1101111101000#13 = some .xorMemXA ∧
    decode 0b1101111101100#13 = some .xorMemXB ∧ decode 0b1101111101010#13 = some .xorMemYA ∧
    decode 0b1101111101110#13 = some .xorMemYB ∧ decode 0b1101111101001#13 = some .xorMemXIncA ∧
    decode 0b1101111101101#13 = some .xorMemXIncB ∧ decode 0b1101111101011#13 = some .xorMemYIncA ∧
    decode 0b1101111101111#13 = some .xorMemYIncB ∧ decode 0b1101110001011#13 = some (.xorMemXImm4 0b1011#4) ∧
    decode 0b1101110101011#13 = some (.xorMemYImm4 0b1011#4) ∧ decode 0b1101110011011#13 = some (.xorMemXIncImm4 0b1011#4) ∧
    decode 0b1101110111011#13 = some (.xorMemYIncImm4 0b1011#4) :=
  ⟨rfl, rfl, rfl, rfl, rfl, rfl, rfl, rfl, rfl, rfl, rfl, rfl, rfl, rfl, rfl, rfl, rfl, rfl, rfl, rfl, rfl, rfl, rfl⟩

/-- Codes of RL %A to SRL [%Y]+, each bit from the rows of spec/opcode_table.json. -/
theorem test_decode_shift_rotate :
    decode 0b1000011110010#13 = some .rlA ∧ decode 0b1000011110110#13 = some .rlB ∧
    decode 0b1000011101000#13 = some .rlMemX ∧ decode 0b1000011101010#13 = some .rlMemY ∧
    decode 0b1000011101001#13 = some .rlMemXInc ∧ decode 0b1000011101011#13 = some .rlMemYInc ∧
    decode 0b1000011110011#13 = some .rrA ∧ decode 0b1000011110111#13 = some .rrB ∧
    decode 0b1000011101100#13 = some .rrMemX ∧ decode 0b1000011101110#13 = some .rrMemY ∧
    decode 0b1000011101101#13 = some .rrMemXInc ∧ decode 0b1000011101111#13 = some .rrMemYInc ∧
    decode 0b1000011110000#13 = some .sllA ∧ decode 0b1000011110100#13 = some .sllB ∧
    decode 0b1000011100001#13 = some .sllMemXInc ∧ decode 0b1000011100011#13 = some .sllMemYInc ∧
    decode 0b1000011100000#13 = some .sllMemX ∧ decode 0b1000011100010#13 = some .sllMemY ∧
    decode 0b1000011110001#13 = some .srlA ∧ decode 0b1000011110101#13 = some .srlB ∧
    decode 0b1000011100100#13 = some .srlMemX ∧ decode 0b1000011100110#13 = some .srlMemY ∧
    decode 0b1000011100101#13 = some .srlMemXInc ∧ decode 0b1000011100111#13 = some .srlMemYInc :=
  ⟨rfl, rfl, rfl, rfl, rfl, rfl, rfl, rfl, rfl, rfl, rfl, rfl, rfl, rfl, rfl, rfl, rfl, rfl, rfl, rfl, rfl, rfl, rfl, rfl⟩

/-- Codes of ADD %X,%BA to LDB %YL,%BA, each bit from the rows of spec/opcode_table.json. -/
theorem test_decode_transfer_8_16bit_a :
    decode 0b1111111010000#13 = some .addXBA ∧ decode 0b1111111010010#13 = some .addYBA ∧
    decode 0b0110010011100#13 = some (.addXSign8 0x9C#8) ∧ decode 0b0110110011100#13 = some (.addYSign8 0x9C#8) ∧
    decode 0b0111001011001#13 = some (.cmpXImm8 0xA6#8) ∧ decode 0b0111101011001#13 = some (.cmpYImm8 0xA6#8) ∧
    decode 0b1111111100000#13 = some .decSP1 ∧ decode 0b1111111100100#13 = some .decSP2 ∧
    decode 0b1111111101000#13 = some .incSP1 ∧ decode 0b1111111101100#13 = some .incSP2 ∧
    decode 0b0100110100110#13 = some (.ldbBAImm8 0xA6#8) ∧ decode 0b1111111011000#13 = some .ldbBAMemXInc ∧
    decode 0b1111111011010#13 = some .ldbBAMemYInc ∧ decode 0b1111111010110#13 = some .ldbBAEXT ∧
    decode 0b1111111001000#13 = some .ldbBAXL ∧ decode 0b1111111001001#13 = some .ldbBAXH ∧
    decode 0b1111111001010#13 = some .ldbBAYL ∧ decode 0b1111111001011#13 = some .ldbBAYH ∧
    decode 0b1111111001100#13 = some .ldbBASP1 ∧ decode 0b1111111001110#13 = some .ldbBASP2 ∧
    decode 0b1111111011001#13 = some .ldbMemXIncBA ∧ decode 0b1111111011011#13 = some .ldbMemYIncBA ∧
    decode 0b0000110100110#13 = some (.ldbMemXIncImm8 0xA6#8) ∧ decode 0b0100010100110#13 = some (.ldbEXTImm8 0xA6#8) ∧
    decode 0b1111111010100#13 = some .ldbEXTBA ∧ decode 0b0101010100110#13 = some (.ldbXLImm8 0xA6#8) ∧
    decode 0b0101110100110#13 = some (.ldbYLImm8 0xA6#8) ∧ decode 0b1111111000000#13 = some .ldbXLBA ∧
    decode 0b1111111000001#13 = some .ldbXHBA ∧ decode 0b1111111000010#13 = some .ldbYLBA :=
  ⟨rfl, rfl, rfl, rfl, rfl, rfl, rfl, rfl, rfl, rfl, rfl, rfl, rfl, rfl, rfl, rfl, rfl, rfl, rfl, rfl, rfl, rfl, rfl, rfl, rfl, rfl, rfl, rfl, rfl, rfl⟩

/-- Codes of LDB %YH,%BA to LDB %SP2,%BA, each bit from the rows of spec/opcode_table.json. -/
theorem test_decode_transfer_8_16bit_b :
    decode 0b1111111000011#13 = some .ldbYHBA ∧ decode 0b1111111000100#13 = some .ldbSP1BA ∧
    decode 0b1111111000110#13 = some .ldbSP2BA :=
  ⟨rfl, rfl, rfl⟩

/-- Codes of POP %A to PUSH %Y, each bit from the rows of spec/opcode_table.json. -/
theorem test_decode_stack :
    decode 0b1111111101111#13 = some .popA ∧ decode 0b1111111101110#13 = some .popB ∧
    decode 0b1111111101101#13 = some .popF ∧ decode 0b1111111100111#13 = some .pushA ∧
    decode 0b1111111100110#13 = some .pushB ∧ decode 0b1111111100101#13 = some .pushF ∧
    decode 0b1111111101001#13 = some .popX ∧ decode 0b1111111101010#13 = some .popY ∧
    decode 0b1111111100001#13 = some .pushX ∧ decode 0b1111111100010#13 = some .pushY :=
  ⟨rfl, rfl, rfl, rfl, rfl, rfl, rfl, rfl, rfl, rfl⟩

/-- Codes of CALR [addr6] to RETS, each bit from the rows of spec/opcode_table.json. -/
theorem test_decode_branch :
    decode 0b1111100101101#13 = some (.calrMemAddr6 0x2D#6) ∧ decode 0b0001010011100#13 = some (.calrSign8 0x9C#8) ∧
    decode 0b0001110100110#13 = some (.calzImm8 0xA6#8) ∧ decode 0b1111110110101#13 = some (.intImm6 0x35#6) ∧
    decode 0b1111111110010#13 = some .jpY ∧ decode 0b1111111110001#13 = some .jrA ∧ decode 0b1111111110000#13 = some .jrBA ∧
    decode 0b1111101101101#13 = some (.jrMemAddr6 0x2D#6) ∧ decode 0b0000010011100#13 = some (.jrSign8 0x9C#8) ∧
    decode 0b0010010011100#13 = some (.jrcSign8 0x9C#8) ∧ decode 0b0010110011100#13 = some (.jrncSign8 0x9C#8) ∧
    decode 0b0011110011100#13 = some (.jrnzSign8 0x9C#8) ∧ decode 0b0011010011100#13 = some (.jrzSign8 0x9C#8) ∧
    decode 0b1111111111000#13 = some .ret ∧ decode 0b1000110100110#13 = some (.retdImm8 0xA6#8) ∧
    decode 0b1111111111001#13 = some .reti ∧ decode 0b1111111111011#13 = some .rets :=
  ⟨rfl, rfl, rfl, rfl, rfl, rfl, rfl, rfl, rfl, rfl, rfl, rfl, rfl, rfl, rfl, rfl, rfl⟩

/-- Codes of HALT to SLP, each bit from the rows of spec/opcode_table.json. -/
theorem test_decode_system :
    decode 0b1111111111100#13 = some .halt ∧ decode 0b1111111111110#13 = some .nop ∧
    decode 0b1111111111101#13 = some .slp :=
  ⟨rfl, rfl, rfl⟩

/-! ### One step: the vectors of the spec -/

/-- Configuration T of spec/95_test_vectors.md, section 0: RAM at every data address. -/
def configT : Config := { Config.standard with dataMap := [⟨0, 65536, .ram⟩] }

/-- The default start state of the vectors; what they leave unwritten is 0 here (assumption 1). -/
def start : State :=
  { State.reset with pc := 0x0200#16, sp1 := 0x40#8, sp2 := 0x50#8, pairMask := .pairSet, cfg := configT }

/-- The state after one step that fetches the word `w`. -/
def ran (s : State) (w : Nat) : Option State :=
  match step (s.withFetchWord 13 w) with
  | .next t => some t
  | _ => none

/-- The fault of an outcome. -/
def faultOf (o : Host.Outcome State Fault Refusal) : Option Fault :=
  match o with
  | .fault e => some e
  | _ => none

/-- The refusal of an outcome. -/
def refusalOf (o : Host.Outcome State Fault Refusal) : Option Refusal :=
  match o with
  | .refused r => some r
  | _ => none

/-- The fault of one step that fetches the word `w`. -/
def faulted (s : State) (w : Nat) : Option Fault := faultOf (step (s.withFetchWord 13 w))

/-- V40.1: `LD %A,%B` (R101). -/
theorem test_ld_a_b_v40_1 :
    (ran { start with b := 0x7#4, f := 0b0011#4 } 0x1EF2).any (fun t =>
      t.a == 0x7#4 && t.pc == 0x0201#16 && t.f == 0b0011#4 && t.defer == false && t.cycles == 1) = true := by decide

/-- V40.5: `LD %A,%F` (R101). -/
theorem test_ld_a_f_v40_5 :
    (ran { start with f := 0b0110#4 } 0x1FF6).any (fun t =>
      t.a == 0x6#4 && t.pc == 0x0201#16 && t.f == 0b0110#4 && t.defer == false && t.cycles == 1) = true := by decide

/-- V40.8: `LD %F,%A` (R101). -/
theorem test_ld_f_a_v40_8 :
    (ran { start with a := 0x0#4, f := 0b0111#4 } 0x1FF5).any (fun t =>
      t.pc == 0x0201#16 && t.f == 0b0000#4 && t.defer == true && t.cycles == 1) = true := by decide

/-- V40.16: `LD %B,[%Y]` (R103). -/
theorem test_ld_b_y_v40_16 :
    (ran { start with y := 0xFFFF#16, mem := [(0xFFFF, 0xA#4)] } 0x1EE6).any (fun t =>
      t.b == 0xA#4 && t.pc == 0x0201#16 && t.f == 0b0000#4 && t.defer == false && t.cycles == 1) = true := by decide

/-- V40.20: `LD %B,[%X]+` (R104). -/
theorem test_ld_b_x_v40_20 :
    (ran { start with x := 0xFFFF#16, mem := [(0xFFFF, 0x2#4)] } 0x1EE5).any (fun t =>
      t.b == 0x2#4 && t.x == 0x0000#16 && t.pc == 0x0201#16 && t.f == 0b0000#4 && t.defer == false && t.cycles == 1) = true
        := by decide

/-- V40.33: `LD [%Y],0` (R107). -/
theorem test_ld_y_0_v40_33 :
    (ran { start with y := 0x0041#16, mem := [(0x0041, 0xF#4)] } 0x1EA0).any (fun t =>
      t.pc == 0x0201#16 && t.f == 0b0000#4 && t.defer == false && t.cycles == 1 && wordAt t 0x0041 == some 0x0#4) = true :=
        by decide

/-- V40.43: `LD [%Y]+,[%X]+` (R115). -/
theorem test_ld_y_x_v40_43 :
    (ran { start with x := 0x0010#16, y := 0x0010#16, mem := [(0x0010, 0x4#4)] } 0x1EFD).any (fun t =>
      t.x == 0x0011#16 && t.y == 0x0011#16 && t.pc == 0x0201#16 && t.f == 0b0000#4 && t.defer == false && t.cycles == 2) =
        true := by decide

/-- V40.44: `EX %A,%B` (R109). -/
theorem test_ex_a_b_v40_44 :
    (ran { start with a := 0x1#4, b := 0xE#4, f := 0b0011#4 } 0x1FF7).any (fun t =>
      t.a == 0xE#4 && t.b == 0x1#4 && t.pc == 0x0201#16 && t.f == 0b0011#4 && t.defer == false && t.cycles == 1) = true :=
        by decide

/-- V40.50: `EX %B,[%X]+` (R111). -/
theorem test_ex_b_x_v40_50 :
    (ran { start with b := 0x4#4, x := 0xFFFF#16, mem := [(0xFFFF, 0xD#4)] } 0x10FD).any (fun t =>
      t.b == 0xD#4 && t.x == 0x0000#16 && t.pc == 0x0201#16 && t.f == 0b0000#4 && t.defer == false && t.cycles == 2 &&
        wordAt t 0xFFFF == some 0x4#4) = true := by decide

/-- V41.1: `ADD %A,%B` (R122). -/
theorem test_add_a_b_v41_1 :
    (ran { start with a := 0x9#4, b := 0x8#4 } 0x1972).any (fun t =>
      t.a == 0x1#4 && t.pc == 0x0201#16 && t.f == 0b0010#4 && t.defer == false && t.cycles == 1) = true := by decide

/-- V41.3: `ADD %B,%A` (R122). -/
theorem test_add_b_a_v41_3 :
    (ran { start with a := 0x1#4, b := 0x2#4, f := 0b0011#4 } 0x1974).any (fun t =>
      t.b == 0x3#4 && t.pc == 0x0201#16 && t.f == 0b0000#4 && t.defer == false && t.cycles == 1) = true := by decide

/-- V41.16: `ADD [%Y]+,%A` (R127). -/
theorem test_add_y_a_v41_16 :
    (ran { start with a := 0x1#4, y := 0x0061#16, mem := [(0x0061, 0xF#4)] } 0x196B).any (fun t =>
      t.y == 0x0062#16 && t.pc == 0x0201#16 && t.f == 0b0011#4 && t.defer == false && t.cycles == 2 && wordAt t 0x0061 ==
        some 0x0#4) = true := by decide

/-- V41.20: `ADD [%Y]+,0xF` (R129). -/
theorem test_add_y_0xf_v41_20 :
    (ran { start with y := 0x0061#16, mem := [(0x0061, 0x2#4)] } 0x193F).any (fun t =>
      t.y == 0x0062#16 && t.pc == 0x0201#16 && t.f == 0b0010#4 && t.defer == false && t.cycles == 2 && wordAt t 0x0061 ==
        some 0x1#4) = true := by decide

/-- V41.22: `ADC %A,%A` (R130). -/
theorem test_adc_a_a_v41_22 :
    (ran { start with a := 0x8#4, f := 0b0010#4 } 0x19F0).any (fun t =>
      t.a == 0x1#4 && t.pc == 0x0201#16 && t.f == 0b0010#4 && t.defer == false && t.cycles == 1) = true := by decide

/-- V41.32: `ADC [%Y],%B` (R134). -/
theorem test_adc_y_b_v41_32 :
    (ran { start with b := 0x1#4, y := 0x0061#16, f := 0b0010#4, mem := [(0x0061, 0x1#4)] } 0x19EE).any (fun t =>
      t.pc == 0x0201#16 && t.f == 0b0000#4 && t.defer == false && t.cycles == 2 && wordAt t 0x0061 == some 0x3#4) = true :=
        by decide

/-- V41.39: `SUB %A,%B` (R138). -/
theorem test_sub_a_b_v41_39 :
    (ran { start with a := 0x3#4, b := 0x5#4 } 0x1872).any (fun t =>
      t.a == 0xE#4 && t.pc == 0x0201#16 && t.f == 0b0010#4 && t.defer == false && t.cycles == 1) = true := by decide

/-- V41.51: `SUB [%X]+,%B` (R143). -/
theorem test_sub_x_b_v41_51 :
    (ran { start with b := 0x2#4, x := 0x0060#16, mem := [(0x0060, 0xA#4)] } 0x186D).any (fun t =>
      t.x == 0x0061#16 && t.pc == 0x0201#16 && t.f == 0b0000#4 && t.defer == false && t.cycles == 2 && wordAt t 0x0060 ==
        some 0x8#4) = true := by decide

/-- V41.60: `SBC %B,%A` (R146). -/
theorem test_sbc_b_a_v41_60 :
    (ran { start with a := 0xF#4, b := 0xF#4, f := 0b0010#4 } 0x18F4).any (fun t =>
      t.pc == 0x0201#16 && t.f == 0b0010#4 && t.defer == false && t.cycles == 1) = true := by decide

/-- V41.66: `SBC %A,[%X]+` (R149). -/
theorem test_sbc_a_x_v41_66 :
    (ran { start with a := 0x0#4, x := 0x0060#16, f := 0b0010#4, mem := [(0x0060, 0xF#4)] } 0x18E1).any (fun t =>
      t.x == 0x0061#16 && t.pc == 0x0201#16 && t.f == 0b0011#4 && t.defer == false && t.cycles == 1) = true := by decide

/-- V41.77: `CMP %A,%B` (R154). -/
theorem test_cmp_a_b_v41_77 :
    (ran { start with a := 0x4#4, b := 0x5#4 } 0x1E72).any (fun t =>
      t.pc == 0x0201#16 && t.f == 0b0010#4 && t.defer == false && t.cycles == 1) = true := by decide

/-- V41.78: `CMP %A,%A` (R154). -/
theorem test_cmp_a_a_v41_78 :
    (ran { start with a := 0xE#4, f := 0b0010#4 } 0x1E70).any (fun t =>
      t.pc == 0x0201#16 && t.f == 0b0001#4 && t.defer == false && t.cycles == 1) = true := by decide

/-- V41.93: `CMP [%X]+,9` (R161). -/
theorem test_cmp_x_9_v41_93 :
    (ran { start with x := 0x0060#16, mem := [(0x0060, 0x8#4)] } 0x1E19).any (fun t =>
      t.x == 0x0061#16 && t.pc == 0x0201#16 && t.f == 0b0010#4 && t.defer == false && t.cycles == 1) = true := by decide

/-- V41.96: `INC [0x3F]` (R162). -/
theorem test_inc_0x3f_v41_96 :
    (ran { start with mem := [(0x003F, 0xF#4)] } 0x107F).any (fun t =>
      t.pc == 0x0201#16 && t.f == 0b0011#4 && t.defer == false && t.cycles == 2 && wordAt t 0x003F == some 0x0#4) = true :=
        by decide

/-- V41.98: `DEC [0x00]` (R163). -/
theorem test_dec_0x00_v41_98 :
    (ran { start with mem := [(0x0000, 0x0#4)] } 0x1000).any (fun t =>
      t.pc == 0x0201#16 && t.f == 0b0010#4 && t.defer == false && t.cycles == 2 && wordAt t 0x0000 == some 0xF#4) = true :=
        by decide

/-- V42.2: `ADC %B,%A,8` (R184). -/
theorem test_adc_b_a_8_v42_2 :
    (ran { start with a := 0x3#4, b := 0x5#4 } 0x10D8).any (fun t =>
      t.b == 0x0#4 && t.pc == 0x0201#16 && t.f == 0b0011#4 && t.defer == false && t.cycles == 2) = true := by decide

/-- V42.3: `ADC %B,%A,10` (R184). -/
theorem test_adc_b_a_10_v42_3 :
    (ran { start with a := 0x9#4, b := 0x9#4 } 0x10D6).any (fun t =>
      t.b == 0x8#4 && t.pc == 0x0201#16 && t.f == 0b0010#4 && t.defer == false && t.cycles == 2) = true := by decide

/-- V42.7: `ADC %B,%A,10` (R184). -/
theorem test_adc_b_a_10_v42_7 :
    (ran { start with a := 0x5#4, b := 0x4#4, f := 0b0010#4 } 0x10D6).any (fun t =>
      t.b == 0x0#4 && t.pc == 0x0201#16 && t.f == 0b0011#4 && t.defer == false && t.cycles == 2) = true := by decide

/-- V42.12: `ADC %B,%A,1` (R184). -/
theorem test_adc_b_a_1_v42_12 :
    (ran { start with a := 0x0#4, b := 0x0#4, f := 0b0010#4 } 0x10DF).any (fun t =>
      t.pc == 0x0201#16 && t.f == 0b0011#4 && t.defer == false && t.cycles == 2) = true := by decide

/-- V42.20: `ADC %B,[%Y]+,10` (R186). -/
theorem test_adc_b_y_10_v42_20 :
    (ran { start with b := 0x9#4, y := 0xFFFF#16, f := 0b0010#4, mem := [(0xFFFF, 0x9#4)] } 0x1DF6).any (fun t =>
      t.y == 0x0000#16 && t.pc == 0x0201#16 && t.f == 0b0010#4 && t.defer == false && t.cycles == 2) = true := by decide

/-- V42.23: `ADC [%X]+,%B,10` (R188). -/
theorem test_adc_x_b_10_v42_23 :
    (ran { start with b := 0x3#4, x := 0x0070#16, f := 0b0010#4, mem := [(0x0070, 0x4#4)] } 0x1D56).any (fun t =>
      t.x == 0x0071#16 && t.pc == 0x0201#16 && t.f == 0b0000#4 && t.defer == false && t.cycles == 2 && wordAt t 0x0070 ==
        some 0x8#4) = true := by decide

/-- V42.28: `ADC [%Y],0,3` (R189). -/
theorem test_adc_y_0_3_v42_28 :
    (ran { start with y := 0x0071#16, f := 0b0010#4, mem := [(0x0071, 0x2#4)] } 0x1D2D).any (fun t =>
      t.pc == 0x0201#16 && t.f == 0b0011#4 && t.defer == false && t.cycles == 2 && wordAt t 0x0071 == some 0x0#4) = true :=
        by decide

/-- V42.32: `SBC %B,%A,10` (R191). -/
theorem test_sbc_b_a_10_v42_32 :
    (ran { start with a := 0x2#4, b := 0x1#4 } 0x10CA).any (fun t =>
      t.b == 0x9#4 && t.pc == 0x0201#16 && t.f == 0b0010#4 && t.defer == false && t.cycles == 2) = true := by decide

/-- V42.35: `SBC %B,%A,10` (R191). -/
theorem test_sbc_b_a_10_v42_35 :
    (ran { start with a := 0xF#4, b := 0x0#4, f := 0b0010#4 } 0x10CA).any (fun t =>
      t.b == 0xA#4 && t.pc == 0x0201#16 && t.f == 0b0010#4 && t.defer == false && t.cycles == 2) = true := by decide

/-- V42.41: `SBC %B,[%Y],6` (R192). -/
theorem test_sbc_b_y_6_v42_41 :
    (ran { start with b := 0x0#4, y := 0x0071#16, f := 0b0010#4, mem := [(0x0071, 0x5#4)] } 0x1CE6).any (fun t =>
      t.pc == 0x0201#16 && t.f == 0b0011#4 && t.defer == false && t.cycles == 2) = true := by decide

/-- V42.47: `SBC [%Y]+,%B,16` (R195). -/
theorem test_sbc_y_b_16_v42_47 :
    (ran { start with b := 0xF#4, y := 0x0071#16, mem := [(0x0071, 0x1#4)] } 0x1C70).any (fun t =>
      t.y == 0x0072#16 && t.pc == 0x0201#16 && t.f == 0b0010#4 && t.defer == false && t.cycles == 2 && wordAt t 0x0071 ==
        some 0x2#4) = true := by decide

/-- V42.51: `SBC [%Y],0,3` (R196). -/
theorem test_sbc_y_0_3_v42_51 :
    (ran { start with y := 0x0071#16, f := 0b0010#4, mem := [(0x0071, 0x0#4)] } 0x1C23).any (fun t =>
      t.pc == 0x0201#16 && t.f == 0b0010#4 && t.defer == false && t.cycles == 2 && wordAt t 0x0071 == some 0x2#4) = true :=
        by decide

/-- V43.1: `AND %A,%B` (R212). -/
theorem test_and_a_b_v43_1 :
    (ran { start with a := 0xC#4, b := 0xA#4, f := 0b0010#4 } 0x1A72).any (fun t =>
      t.a == 0x8#4 && t.pc == 0x0201#16 && t.f == 0b0010#4 && t.defer == false && t.cycles == 1) = true := by decide

/-- V43.10: `AND %B,[%Y]+` (R215). -/
theorem test_and_b_y_v43_10 :
    (ran { start with b := 0x1#4, y := 0xFFFF#16, mem := [(0xFFFF, 0xE#4)] } 0x1A67).any (fun t =>
      t.b == 0x0#4 && t.y == 0x0000#16 && t.pc == 0x0201#16 && t.f == 0b0001#4 && t.defer == false && t.cycles == 1) = true
        := by decide

/-- V43.15: `AND [%X],0xB` (R218). -/
theorem test_and_x_0xb_v43_15 :
    (ran { start with x := 0x0080#16, f := 0b0010#4, mem := [(0x0080, 0xF#4)] } 0x1A0B).any (fun t =>
      t.pc == 0x0201#16 && t.f == 0b0010#4 && t.defer == false && t.cycles == 2 && wordAt t 0x0080 == some 0xB#4) = true :=
        by decide

/-- V43.31: `OR [%X]+,%B` (R226). -/
theorem test_or_x_b_v43_31 :
    (ran { start with b := 0xC#4, x := 0x0080#16, mem := [(0x0080, 0x5#4)] } 0x1B6D).any (fun t =>
      t.x == 0x0081#16 && t.pc == 0x0201#16 && t.f == 0b0000#4 && t.defer == false && t.cycles == 2 && wordAt t 0x0080 ==
        some 0xD#4) = true := by decide

/-- V43.37: `XOR %A,%B` (R230). -/
theorem test_xor_a_b_v43_37 :
    (ran { start with a := 0xC#4, b := 0xA#4, f := 0b0010#4 } 0x1BF2).any (fun t =>
      t.a == 0x6#4 && t.pc == 0x0201#16 && t.f == 0b0010#4 && t.defer == false && t.cycles == 1) = true := by decide

/-- V43.50: `XOR [%Y]+,%A` (R235). -/
theorem test_xor_y_a_v43_50 :
    (ran { start with a := 0x3#4, y := 0x0081#16, mem := [(0x0081, 0xC#4)] } 0x1BEB).any (fun t =>
      t.y == 0x0082#16 && t.pc == 0x0201#16 && t.f == 0b0000#4 && t.defer == false && t.cycles == 2 && wordAt t 0x0081 ==
        some 0xF#4) = true := by decide

/-- V43.55: `BIT %A,%B` (R239). -/
theorem test_bit_a_b_v43_55 :
    (ran { start with a := 0xC#4, b := 0xA#4, f := 0b0010#4 } 0x1AF2).any (fun t =>
      t.pc == 0x0201#16 && t.f == 0b0010#4 && t.defer == false && t.cycles == 1) = true := by decide

/-- V43.69: `BIT [%X],0xB` (R245). -/
theorem test_bit_x_0xb_v43_69 :
    (ran { start with x := 0x0080#16, f := 0b0010#4, mem := [(0x0080, 0x4#4)] } 0x1A8B).any (fun t =>
      t.pc == 0x0201#16 && t.f == 0b0011#4 && t.defer == false && t.cycles == 1) = true := by decide

/-- V43.74: `AND %F,0` (R220). -/
theorem test_and_f_0_v43_74 :
    (ran { start with f := 0b0111#4 } 0x1080).any (fun t =>
      t.pc == 0x0201#16 && t.f == 0b0000#4 && t.defer == true && t.cycles == 1) = true := by decide

/-- V43.79: `OR %F,3` (R229). -/
theorem test_or_f_3_v43_79 :
    (ran start 0x1093).any (fun t =>
      t.pc == 0x0201#16 && t.f == 0b0011#4 && t.defer == true && t.cycles == 1) = true := by decide

/-- V43.80: `XOR %F,0xF` (R238). -/
theorem test_xor_f_0xf_v43_80 :
    (ran { start with f := 0b0010#4 } 0x10AF).any (fun t =>
      t.pc == 0x0201#16 && t.f == 0b1101#4 && t.defer == true && t.cycles == 1) = true := by decide

/-- V43.83: `CLR [0x00],0` (R247). -/
theorem test_clr_0x00_0_v43_83 :
    (ran { start with f := 0b0010#4, mem := [(0x0000, 0xF#4)] } 0x1400).any (fun t =>
      t.pc == 0x0201#16 && t.f == 0b0010#4 && t.defer == false && t.cycles == 2 && wordAt t 0x0000 == some 0xE#4) = true :=
        by decide

/-- V43.90: `SET [0xFFD2],3` (R248). -/
theorem test_set_0xffd2_3_v43_90 :
    (ran { start with mem := [(0xFFD2, 0x0#4)] } 0x17D2).any (fun t =>
      t.pc == 0x0201#16 && t.f == 0b0000#4 && t.defer == false && t.cycles == 2 && wordAt t 0xFFD2 == some 0x8#4) = true :=
        by decide

/-- V43.94: `TST [0xFFC0],1` (R249). -/
theorem test_tst_0xffc0_1_v43_94 :
    (ran { start with f := 0b0001#4, mem := [(0xFFC0, 0x2#4)] } 0x1340).any (fun t =>
      t.pc == 0x0201#16 && t.f == 0b0000#4 && t.defer == false && t.cycles == 1) = true := by decide

/-- V43.95: `TST [0xFFFF],2` (R249). -/
theorem test_tst_0xffff_2_v43_95 :
    (ran { start with mem := [(0xFFFF, 0xB#4)] } 0x13BF).any (fun t =>
      t.pc == 0x0201#16 && t.f == 0b0001#4 && t.defer == false && t.cycles == 1) = true := by decide

/-- V44.4: `SLL %A` (R251). -/
theorem test_sll_a_v44_4 :
    (ran { start with a := 0x7#4, f := 0b0010#4 } 0x10F0).any (fun t =>
      t.a == 0xE#4 && t.pc == 0x0201#16 && t.f == 0b0000#4 && t.defer == false && t.cycles == 1) = true := by decide

/-- V44.12: `SLL [%X]+` (R253). -/
theorem test_sll_x_v44_12 :
    (ran { start with x := 0xFFFF#16, mem := [(0xFFFF, 0x3#4)] } 0x10E1).any (fun t =>
      t.x == 0x0000#16 && t.pc == 0x0201#16 && t.f == 0b0000#4 && t.defer == false && t.cycles == 2 && wordAt t 0xFFFF ==
        some 0x6#4) = true := by decide

/-- V44.17: `SRL %B` (R254). -/
theorem test_srl_b_v44_17 :
    (ran { start with b := 0xE#4, f := 0b0010#4 } 0x10F5).any (fun t =>
      t.b == 0x7#4 && t.pc == 0x0201#16 && t.f == 0b0000#4 && t.defer == false && t.cycles == 1) = true := by decide

/-- V44.22: `SRL [%Y]+` (R256). -/
theorem test_srl_y_v44_22 :
    (ran { start with y := 0xFFFF#16, mem := [(0xFFFF, 0x2#4)] } 0x10E7).any (fun t =>
      t.y == 0x0000#16 && t.pc == 0x0201#16 && t.f == 0b0000#4 && t.defer == false && t.cycles == 2 && wordAt t 0xFFFF ==
        some 0x1#4) = true := by decide

/-- V44.24: `RL %A` (R257). -/
theorem test_rl_a_v44_24 :
    (ran { start with a := 0x9#4, f := 0b0010#4 } 0x10F2).any (fun t =>
      t.a == 0x3#4 && t.pc == 0x0201#16 && t.f == 0b0010#4 && t.defer == false && t.cycles == 1) = true := by decide

/-- V44.28: `RL [%X]` (R258). -/
theorem test_rl_x_v44_28 :
    (ran { start with x := 0x0090#16, f := 0b0010#4, mem := [(0x0090, 0x4#4)] } 0x10E8).any (fun t =>
      t.pc == 0x0201#16 && t.f == 0b0000#4 && t.defer == false && t.cycles == 2 && wordAt t 0x0090 == some 0x9#4) = true :=
        by decide

/-- V44.36: `RR %A` (R260). -/
theorem test_rr_a_v44_36 :
    (ran { start with a := 0x0#4, f := 0b0010#4 } 0x10F3).any (fun t =>
      t.a == 0x8#4 && t.pc == 0x0201#16 && t.f == 0b0000#4 && t.defer == false && t.cycles == 1) = true := by decide

/-- V44.41: `RR [%X]+` (R262). -/
theorem test_rr_x_v44_41 :
    (ran { start with x := 0x0090#16, f := 0b0010#4, mem := [(0x0090, 0xE#4)] } 0x10ED).any (fun t =>
      t.x == 0x0091#16 && t.pc == 0x0201#16 && t.f == 0b0000#4 && t.defer == false && t.cycles == 2 && wordAt t 0x0090 ==
        some 0xF#4) = true := by decide

/-- V45.1: `LDB %BA,0x5C` (R271). -/
theorem test_ldb_ba_0x5c_v45_1 :
    (ran { start with f := 0b0011#4 } 0x095C).any (fun t =>
      t.a == 0xC#4 && t.b == 0x5#4 && t.pc == 0x0201#16 && t.f == 0b0011#4 && t.defer == false && t.cycles == 1) = true :=
        by decide

/-- V45.5: `LDB %BA,[%X]+` (R272). -/
theorem test_ldb_ba_x_v45_5 :
    (ran { start with x := 0xFFFF#16, mem := [(0x0000, 0x2#4), (0xFFFF, 0x1#4)] } 0x1FD8).any (fun t =>
      t.a == 0x1#4 && t.b == 0x2#4 && t.x == 0x0001#16 && t.pc == 0x0201#16 && t.f == 0b0000#4 && t.defer == false &&
        t.cycles == 2) = true := by decide

/-- V45.10: `LDB %BA,%XH` (R274). -/
theorem test_ldb_ba_xh_v45_10 :
    (ran { start with x := 0x12C5#16 } 0x1FC9).any (fun t =>
      t.a == 0x2#4 && t.b == 0x1#4 && t.pc == 0x0201#16 && t.f == 0b0000#4 && t.defer == false && t.cycles == 1) = true :=
        by decide

/-- V45.16: `LDB [%X]+,%BA` (R276). -/
theorem test_ldb_x_ba_v45_16 :
    (ran { start with a := 0x1#4, b := 0xA#4, x := 0xFFFF#16 } 0x1FD9).any (fun t =>
      t.x == 0x0001#16 && t.pc == 0x0201#16 && t.f == 0b0000#4 && t.defer == false && t.cycles == 2 && wordAt t 0x0000 ==
        some 0xA#4 && wordAt t 0xFFFF == some 0x1#4) = true := by decide

/-- V45.18: `LDB [%X]+,0x5C` (R277). -/
theorem test_ldb_x_0x5c_v45_18 :
    (ran { start with x := 0x00A0#16 } 0x015C).any (fun t =>
      t.x == 0x00A2#16 && t.pc == 0x0201#16 && t.f == 0b0000#4 && t.defer == false && t.cycles == 2 && wordAt t 0x00A0 ==
        some 0xC#4 && wordAt t 0x00A1 == some 0x5#4) = true := by decide

/-- V45.22: `LDB %EXT,%BA` (R279). -/
theorem test_ldb_ext_ba_v45_22 :
    (ran { start with a := 0x5#4, b := 0xC#4 } 0x1FD4).any (fun t =>
      t.ext == 0xC5#8 && t.pc == 0x0201#16 && t.f == 0b1000#4 && t.defer == true && t.cycles == 1) = true := by decide

/-- V45.23: `LDB %XL,0x7D` (R280). -/
theorem test_ldb_xl_0x7d_v45_23 :
    (ran { start with x := 0x1234#16 } 0x0A7D).any (fun t =>
      t.x == 0x127D#16 && t.pc == 0x0201#16 && t.f == 0b0000#4 && t.defer == false && t.cycles == 1) = true := by decide

/-- V45.28: `LDB %XH,%BA` (R281). -/
theorem test_ldb_xh_ba_v45_28 :
    (ran { start with a := 0xA#4, b := 0x9#4, x := 0x1234#16 } 0x1FC1).any (fun t =>
      t.x == 0x9A34#16 && t.pc == 0x0201#16 && t.f == 0b0000#4 && t.defer == false && t.cycles == 1) = true := by decide

/-- V45.31: `LDB %SP1,%BA` (R282). -/
theorem test_ldb_sp1_ba_v45_31 :
    (ran { start with a := 0x0#4, b := 0x4#4, pairMask := .bothUnset, mem := [(0x0100, 0x1#4), (0x0101, 0x2#4), (0x0102,
      0x3#4), (0x0103, 0x4#4)] } 0x1FC4).any (fun t =>
      t.sp1 == 0x40#8 && t.q == some 0x4321#16 && t.pc == 0x0201#16 && t.pairMask == PairMask.oneSet .sp1 && t.f == 0b0000#4
        && t.defer == true && t.cycles == 1) = true := by decide

/-- V45.33: `LDB %SP2,%BA` (R282). -/
theorem test_ldb_sp2_ba_v45_33 :
    (ran { start with a := 0x0#4, b := 0x5#4, sp1 := 0x40#8, pairMask := .oneSet .sp1 } 0x1FC6).any (fun t =>
      t.sp2 == 0x50#8 && t.pc == 0x0201#16 && t.pairMask == PairMask.pairSet && t.f == 0b0000#4 && t.defer == true &&
        t.cycles == 1) = true := by decide

/-- V45.35: `LDB %SP2,%BA` (R282). -/
theorem test_ldb_sp2_ba_v45_35 :
    (ran { start with a := 0xF#4, b := 0xF#4, pairMask := .pairSet } 0x1FC6).any (fun t =>
      t.sp2 == 0xFF#8 && t.pc == 0x0201#16 && t.pairMask == PairMask.oneSet .sp2 && t.f == 0b0000#4 && t.defer == true &&
        t.cycles == 1) = true := by decide

/-- V45.36: `ADD %X,%BA` (R283). -/
theorem test_add_x_ba_v45_36 :
    (ran { start with a := 0x0#4, b := 0x8#4, x := 0xFF80#16, f := 0b0010#4 } 0x1FD0).any (fun t =>
      t.x == 0x0000#16 && t.pc == 0x0201#16 && t.f == 0b0011#4 && t.defer == false && t.cycles == 1) = true := by decide

/-- V45.39: `ADD %X,-1` (R284). -/
theorem test_add_x_minus_1_v45_39 :
    (ran { start with x := 0x0000#16, f := 0b0010#4 } 0x0CFF).any (fun t =>
      t.x == 0xFFFF#16 && t.pc == 0x0201#16 && t.f == 0b0010#4 && t.defer == false && t.cycles == 1) = true := by decide

/-- V45.48: `CMP %X,0xA2` (R285). -/
theorem test_cmp_x_0xa2_v45_48 :
    (ran { start with x := 0x00A1#16 } 0x0E5D).any (fun t =>
      t.pc == 0x0201#16 && t.f == 0b0010#4 && t.defer == false && t.cycles == 1) = true := by decide

/-- V45.50: `CMP %Y,0x00` (R285). -/
theorem test_cmp_y_0x00_v45_50 :
    (ran { start with y := 0x0100#16 } 0x0FFF).any (fun t =>
      t.pc == 0x0201#16 && t.f == 0b0000#4 && t.defer == false && t.cycles == 1) = true := by decide

/-- V45.59: `INC %SP1` (R286). -/
theorem test_inc_sp1_v45_59 :
    (ran { start with sp1 := 0xFF#8, f := 0b0010#4, mem := [(0x0000, 0x0#4), (0x0001, 0x0#4), (0x0002, 0x0#4), (0x0003,
      0x0#4)] } 0x1FE8).any (fun t =>
      t.sp1 == 0x00#8 && t.q == some 0x0000#16 && t.pc == 0x0201#16 && t.f == 0b0011#4 && t.defer == false && t.cycles == 1)
        = true := by decide

/-- V45.63: `DEC %SP1` (R287). -/
theorem test_dec_sp1_v45_63 :
    (ran { start with sp1 := 0x00#8, mem := [(0x03FC, 0x1#4), (0x03FD, 0x2#4), (0x03FE, 0x3#4), (0x03FF, 0x4#4)] }
      0x1FE0).any (fun t =>
      t.sp1 == 0xFF#8 && t.q == some 0x4321#16 && t.pc == 0x0201#16 && t.f == 0b0000#4 && t.defer == false && t.cycles == 1)
        = true := by decide

/-- V45.65: `DEC %SP2` (R287). -/
theorem test_dec_sp2_v45_65 :
    (ran { start with sp2 := 0x01#8, f := 0b0010#4 } 0x1FE4).any (fun t =>
      t.sp2 == 0x00#8 && t.pc == 0x0201#16 && t.f == 0b0011#4 && t.defer == false && t.cycles == 1) = true := by decide

/-- V46.2: `PUSH %B` (R291). -/
theorem test_push_b_v46_2 :
    (ran { start with b := 0x9#4, sp2 := 0x00#8 } 0x1FE6).any (fun t =>
      t.sp2 == 0xFF#8 && t.pc == 0x0201#16 && t.f == 0b0000#4 && t.defer == false && t.cycles == 1 && wordAt t 0x00FF ==
        some 0x9#4) = true := by decide

/-- V46.3: `PUSH %F` (R291). -/
theorem test_push_f_v46_3 :
    (ran { start with f := 0b0110#4 } 0x1FE5).any (fun t =>
      t.sp2 == 0x4F#8 && t.pc == 0x0201#16 && t.f == 0b0110#4 && t.defer == false && t.cycles == 1 && wordAt t 0x004F ==
        some 0x6#4) = true := by decide

/-- V46.6: `POP %B` (R292). -/
theorem test_pop_b_v46_6 :
    (ran { start with sp2 := 0xFF#8, mem := [(0x00FF, 0x3#4)] } 0x1FEE).any (fun t =>
      t.b == 0x3#4 && t.sp2 == 0x00#8 && t.pc == 0x0201#16 && t.f == 0b0000#4 && t.defer == false && t.cycles == 1) = true
        := by decide

/-- V46.7: `POP %F` (R293). -/
theorem test_pop_f_v46_7 :
    (ran { start with sp2 := 0x4F#8, mem := [(0x004F, 0x7#4)] } 0x1FED).any (fun t =>
      t.sp2 == 0x50#8 && t.pc == 0x0201#16 && t.f == 0b0111#4 && t.defer == true && t.cycles == 1) = true := by decide

/-- V46.11: `PUSH %Y` (R294). -/
theorem test_push_y_v46_11 :
    (ran { start with y := 0xABCD#16, sp1 := 0x00#8 } 0x1FE2).any (fun t =>
      t.sp1 == 0xFF#8 && t.q == some 0xABCD#16 && t.pc == 0x0201#16 && t.f == 0b0000#4 && t.defer == false && t.cycles == 1
        && wordAt t 0x03FC == some 0xD#4 && wordAt t 0x03FD == some 0xC#4 && wordAt t 0x03FE == some 0xB#4 && wordAt t
        0x03FF == some 0xA#4) = true := by decide

/-- V46.13: `POP %X` (R295). -/
theorem test_pop_x_v46_13 :
    (ran { start with sp1 := 0x3F#8, q := some 0x1234#16, mem := [(0x00FC, 0x4#4), (0x00FD, 0x3#4), (0x00FE, 0x2#4),
      (0x00FF, 0x1#4), (0x0100, 0x8#4), (0x0101, 0x7#4), (0x0102, 0x6#4), (0x0103, 0x5#4)] } 0x1FE9).any (fun t =>
      t.x == 0x1234#16 && t.sp1 == 0x40#8 && t.q == some 0x5678#16 && t.pc == 0x0201#16 && t.f == 0b0000#4 && t.defer ==
        false && t.cycles == 1) = true := by decide

/-- V46.15: `POP %X` (R295). -/
theorem test_pop_x_v46_15 :
    (ran { start with sp1 := 0x3F#8, q := some 0x1234#16, mem := [(0x00FC, 0x0#4), (0x00FD, 0x0#4), (0x00FE, 0x0#4),
      (0x00FF, 0x0#4)] } 0x1FE9).any (fun t =>
      t.x == 0x1234#16 && t.sp1 == 0x40#8 && t.q == none && t.pc == 0x0201#16 && t.f == 0b0000#4 && t.defer == false &&
        t.cycles == 1) = true := by decide

/-- V47.5: `JR -128` (R382). -/
theorem test_jr_minus_128_v47_5 :
    (ran start 0x0080).any (fun t =>
      t.pc == 0x0181#16 && t.f == 0b0000#4 && t.defer == false && t.cycles == 1) = true := by decide

/-- V47.13: `JR -3` (R382). -/
theorem test_jr_minus_3_v47_13 :
    (ran { start with pc := 0x0001#16 } 0x00FD).any (fun t =>
      t.pc == 0xFFFF#16 && t.f == 0b0000#4 && t.defer == false && t.cycles == 1) = true := by decide

/-- V47.16: `JR %A` (R383). -/
theorem test_jr_a_v47_16 :
    (ran { start with pc := 0xFFF8#16, a := 0xF#4 } 0x1FF1).any (fun t =>
      t.pc == 0x0008#16 && t.f == 0b0000#4 && t.defer == false && t.cycles == 1) = true := by decide

/-- V47.19: `JR %BA` (R384). -/
theorem test_jr_ba_v47_19 :
    (ran { start with a := 0xF#4, b := 0xF#4 } 0x1FF0).any (fun t =>
      t.pc == 0x0300#16 && t.f == 0b0000#4 && t.defer == false && t.cycles == 1) = true := by decide

/-- V47.22: `JR [0x3F]` (R385). -/
theorem test_jr_0x3f_v47_22 :
    (ran { start with mem := [(0x003F, 0xF#4)] } 0x1F7F).any (fun t =>
      t.pc == 0x0210#16 && t.f == 0b0000#4 && t.defer == false && t.cycles == 2) = true := by decide

/-- V47.25: `JRC -2` (R386). -/
theorem test_jrc_minus_2_v47_25 :
    (ran { start with f := 0b0010#4 } 0x04FE).any (fun t =>
      t.pc == 0x01FF#16 && t.f == 0b0010#4 && t.defer == false && t.cycles == 1) = true := by decide

/-- V47.29: `JRNC 5` (R387). -/
theorem test_jrnc_5_v47_29 :
    (ran { start with f := 0b0010#4 } 0x0505).any (fun t =>
      t.pc == 0x0201#16 && t.f == 0b0010#4 && t.defer == false && t.cycles == 1) = true := by decide

/-- V47.31: `JRZ 5` (R388). -/
theorem test_jrz_5_v47_31 :
    (ran { start with f := 0b0001#4 } 0x0605).any (fun t =>
      t.pc == 0x0206#16 && t.f == 0b0001#4 && t.defer == false && t.cycles == 1) = true := by decide

/-- V47.34: `JRNZ 5` (R389). -/
theorem test_jrnz_5_v47_34 :
    (ran start 0x0705).any (fun t =>
      t.pc == 0x0206#16 && t.f == 0b0000#4 && t.defer == false && t.cycles == 1) = true := by decide

/-- V47.37: `JP %Y` (R390). -/
theorem test_jp_y_v47_37 :
    (ran { start with y := 0x2400#16 } 0x1FF2).any (fun t =>
      t.pc == 0x2400#16 && t.f == 0b0000#4 && t.defer == false && t.cycles == 1) = true := by decide

/-- V47.42: `CALZ 0xFF` (R391). -/
theorem test_calz_0xff_v47_42 :
    (ran { start with pc := 0xFFFF#16 } 0x03FF).any (fun t =>
      t.sp1 == 0x3F#8 && t.q == some 0x0000#16 && t.pc == 0x00FF#16 && t.f == 0b0000#4 && t.defer == false && t.cycles == 1
        && wordAt t 0x00FC == some 0x0#4 && wordAt t 0x00FD == some 0x0#4 && wordAt t 0x00FE == some 0x0#4 && wordAt t
        0x00FF == some 0x0#4) = true := by decide

/-- V47.44: `CALR -50` (R392). -/
theorem test_calr_minus_50_v47_44 :
    (ran start 0x02CE).any (fun t =>
      t.sp1 == 0x3F#8 && t.q == some 0x0201#16 && t.pc == 0x01CF#16 && t.f == 0b0000#4 && t.defer == false && t.cycles == 1
        && wordAt t 0x00FC == some 0x1#4 && wordAt t 0x00FD == some 0x0#4 && wordAt t 0x00FE == some 0x2#4 && wordAt t
        0x00FF == some 0x0#4) = true := by decide

/-- V47.51: `CALR [0x03]` (R393). -/
theorem test_calr_0x03_v47_51 :
    (ran { start with sp1 := 0x01#8, mem := [(0x0003, 0x1#4)] } 0x1F03).any (fun t =>
      t.sp1 == 0x00#8 && t.q == some 0x0201#16 && t.pc == 0x0201#16 && t.f == 0b0000#4 && t.defer == false && t.cycles == 2
        && wordAt t 0x0000 == some 0x1#4 && wordAt t 0x0001 == some 0x0#4 && wordAt t 0x0002 == some 0x2#4 && wordAt t
        0x0003 == some 0x0#4) = true := by decide

/-- V47.53: `RET` (R394). -/
theorem test_ret_v47_53 :
    (ran { start with sp1 := 0xFF#8, q := some 0x0000#16, mem := [(0x0000, 0x4#4), (0x0001, 0x3#4), (0x0002, 0x2#4),
      (0x0003, 0x1#4)] } 0x1FF8).any (fun t =>
      t.sp1 == 0x00#8 && t.q == some 0x1234#16 && t.pc == 0x0000#16 && t.f == 0b0000#4 && t.defer == false && t.cycles == 1)
        = true := by decide

/-- V47.55: `RETS` (R395). -/
theorem test_rets_v47_55 :
    (ran { start with sp1 := 0x3F#8, q := some 0xFFFF#16, mem := [(0x00FC, 0xF#4), (0x00FD, 0xF#4), (0x00FE, 0xF#4),
      (0x00FF, 0xF#4)] } 0x1FFB).any (fun t =>
      t.sp1 == 0x40#8 && t.q == none && t.pc == 0x0000#16 && t.f == 0b0000#4 && t.defer == false && t.cycles == 2) = true :=
        by decide

/-- V47.58: `RETD 0x00` (R396). -/
theorem test_retd_0x00_v47_58 :
    (ran { start with x := 0x00FC#16, sp1 := 0x3F#8, q := some 0x0202#16, mem := [(0x00FC, 0x2#4), (0x00FD, 0x0#4), (0x00FE,
      0x2#4), (0x00FF, 0x0#4), (0x0100, 0x1#4), (0x0101, 0x1#4), (0x0102, 0x1#4), (0x0103, 0x1#4)] } 0x1100).any (fun t =>
      t.x == 0x00FE#16 && t.sp1 == 0x40#8 && t.q == some 0x1111#16 && t.pc == 0x0202#16 && t.f == 0b0000#4 && t.defer ==
        false && t.cycles == 3 && wordAt t 0x00FC == some 0x0#4) = true := by decide

/-- V47.59: `RETI` (R397). -/
theorem test_reti_v47_59 :
    (ran { start with sp1 := 0x3F#8, sp2 := 0x4F#8, q := some 0x0300#16, mem := [(0x004F, 0x6#4), (0x00FC, 0x0#4), (0x00FD,
      0x0#4), (0x00FE, 0x3#4), (0x00FF, 0x0#4), (0x0100, 0x0#4), (0x0101, 0x0#4), (0x0102, 0x0#4), (0x0103, 0x0#4)] }
      0x1FF9).any (fun t =>
      t.sp1 == 0x40#8 && t.sp2 == 0x50#8 && t.q == some 0x0000#16 && t.pc == 0x0300#16 && t.f == 0b0110#4 && t.defer == true
        && t.cycles == 2) = true := by decide

/-- V47.63: `INT 0x0100` (R398). -/
theorem test_int_0x0100_v47_63 :
    (ran { start with sp1 := 0x00#8, sp2 := 0x00#8, f := 0b0001#4 } 0x1F80).any (fun t =>
      t.sp1 == 0xFF#8 && t.sp2 == 0xFF#8 && t.q == some 0x0201#16 && t.pc == 0x0100#16 && t.f == 0b0001#4 && t.defer ==
        false && t.cycles == 3 && wordAt t 0x00FF == some 0x1#4 && wordAt t 0x03FC == some 0x1#4 && wordAt t 0x03FD == some
        0x0#4 && wordAt t 0x03FE == some 0x2#4 && wordAt t 0x03FF == some 0x0#4) = true := by decide

/-- V48.1: `NOP` (R401). -/
theorem test_nop_v48_1 :
    (ran { start with f := 0b0111#4 } 0x1FFE).any (fun t =>
      t.pc == 0x0201#16 && t.f == 0b0111#4 && t.defer == false && t.cycles == 1) = true := by decide

/-- V48.3: `HALT` (R402). -/
theorem test_halt_v48_3 :
    (ran { start with f := 0b0100#4 } 0x1FFC).any (fun t =>
      t.pc == 0x0201#16 && t.run == RunState.halt && t.f == 0b0100#4 && t.defer == false && t.cycles == 2) = true := by
        decide

/-- V48.4: `SLP` (R403). -/
theorem test_slp_v48_4 :
    (ran { start with f := 0b0010#4 } 0x1FFD).any (fun t =>
      t.pc == 0x0201#16 && t.run == RunState.sleep && t.f == 0b0010#4 && t.defer == false && t.cycles == 2) = true := by
        decide

/-! ### Extended operands: the second instruction of the examples E6 to E8, started with E = 1 -/

/-- E6: `LD %A,[%X]` with EXT = 37H reads 0037H, X and E as the example says. -/
theorem test_extended_load_e6 :
    (ran { start with f := 8#4, defer := true, ext := 0x37#8, x := 0x1234#16, mem := [(0x0037, 9#4), (0x1234, 1#4)] }
      0x1EE0).map (fun t => (t.a, t.x, t.f, t.defer)) = some (9#4, 0x1234#16, 0#4, false) := by decide

/-- E6: `ADD [%Y],5` with EXT = 9CH works on FF9CH. -/
theorem test_extended_add_e6 :
    (ran { start with f := 8#4, defer := true, ext := 0x9C#8, mem := [(0x0000, 1#4), (0xFF9C, 0xC#4)] } 0x1925).map
      (fun t => (t.y, t.f, t.cycles, wordAt t 0xFF9C)) = some (0#16, 2#4, 2, some 1#4) := by decide

/-- E7: `LDB %XL,0x7D` with EXT = 15H loads 157DH; `ADD %X,0x4F` with EXT = B8H adds B84FH. -/
theorem test_extended_immediates_e7 :
    (ran { start with f := 8#4, defer := true, ext := 0x15#8, x := 0xFFFF#16 } 0x0A7D).map (fun t => (t.x, t.f)) =
      some (0x157D#16, 0#4) ∧
    (ran { start with f := 0xB#4, defer := true, ext := 0xB8#8, x := 0x1000#16 } 0x0C4F).map (fun t => (t.x, t.f)) =
      some (0xC84F#16, 2#4) := by decide

/-- E7: `CMP %X,0xA2` with EXT = E6H compares with 19A2H. -/
theorem test_extended_compare_e7 :
    (ran { start with f := 8#4, defer := true, ext := 0xE6#8, x := 0x19A2#16 } 0x0E5D).map (fun t => t.f) = some 1#4 ∧
    (ran { start with f := 8#4, defer := true, ext := 0xE6#8, x := 0x19A1#16 } 0x0E5D).map (fun t => t.f) = some 2#4 := by
  decide

/-- E8: `JRC` with EXT = 3AH and field 88H, taken and not; `CALR` with EXT = F8H and field 62H. -/
theorem test_extended_branches_e8 :
    (ran { start with pc := 0x0201#16, f := 0xA#4, defer := true, ext := 0x3A#8 } 0x0488).map (fun t => (t.pc, t.f)) =
      some (0x3C8A#16, 2#4) ∧
    (ran { start with pc := 0x0201#16, f := 8#4, defer := true, ext := 0x3A#8 } 0x0488).map (fun t => (t.pc, t.f)) =
      some (0x0202#16, 0#4) ∧
    (ran { start with pc := 0x0201#16, f := 8#4, defer := true, ext := 0xF8#8 } 0x0262).map
      (fun t => (t.pc, t.sp1, t.q, wordAt t 0x00FC, wordAt t 0x00FE)) =
      some (0xFA64#16, 0x3F#8, some 0x0202#16, some 2#4, some 2#4) := by decide

/-! ### The model faults of the vectors V70 -/

/-- V70.9, V70.10, V70.12: an EXT-invalid instruction that starts with E = 1. -/
theorem test_ext_misuse_v70_9 :
    faulted { start with pc := 0x0201#16, f := 8#4, defer := true } 0x0802 =
      some (.extMisuse 0x0201#16 (some 0x0802#13)) ∧
    faulted { start with pc := 0x0201#16, f := 8#4, defer := true } 0x1FFE =
      some (.extMisuse 0x0201#16 (some 0x1FFE#13)) ∧
    faulted { start with pc := 0x0201#16, f := 8#4, defer := true } 0x1EFA =
      some (.extMisuse 0x0201#16 (some 0x1EFA#13)) := by decide

/-- V70.14: a return with an unwritten Q; V70.16: a fetch past the image; V70.25: an unassigned word. -/
theorem test_faults_v70_14 :
    faulted { start with sp1 := 0x3F#8, q := none } 0x1FF8 = some .undefinedQueue ∧
    faultOf (step { start with pc := 0x0202#16 }) = some (.unmappedFetch 0x0202#16) ∧
    faulted start 0x1FF4 = some (.reservedEncoding 0x0200#16 0x1FF4#13) := by decide

/-- V70.18, V70.19, V70.20, V70.21: the end of the mounted data space in the default configuration. -/
theorem test_unmapped_v70_18 :
    faulted { start with cfg := Config.standard } 0x1500 = some (.unmappedRead 0xFFC0#16) ∧
    faulted { start with cfg := Config.standard, a := 1#4, y := 0xFF00#16 } 0x1EEA = some (.unmappedWrite 0xFF00#16) ∧
    (ran { start with cfg := Config.standard, a := 1#4, y := 0xFEFF#16 } 0x1EEB).map (fun t => (t.y, wordAt t 0xFEFF)) =
      some (0xFF00#16, some 1#4) ∧
    faulted { start with cfg := Config.standard, x := 0xFEFF#16 } 0x0112 = some (.unmappedWrite 0xFF00#16) := by decide

/-- V70.22, V70.23, V70.24: a 16-bit RAM that ends at 01FFH. -/
theorem test_stack16_v70_22 :
    faulted { start with cfg := { configT with ram16Hi := 0x200 }, x := 0x1234#16, sp1 := 0x81#8 } 0x1FE1 =
      some (.stack16OutsideRam16 0x0200#16) ∧
    (ran { start with cfg := { configT with ram16Hi := 0x200 }, x := 0x1234#16, sp1 := 0x80#8 } 0x1FE1).map
      (fun t => (t.sp1, t.q, wordAt t 0x01FC, wordAt t 0x01FF)) = some (0x7F#8, some 0x1234#16, some 4#4, some 1#4) ∧
    faulted { start with cfg := { configT with ram16Hi := 0x200 }, b := 8#4 } 0x1FC4 =
      some (.stack16OutsideRam16 0x0200#16) := by decide

/-! ### Boundaries: the vectors V60 -/

/-- Configuration T with the vector numbers 1 to 3 in use, and IRQ 3 able to end SLEEP. -/
def configI : Config := { configT with irqSources := [1#4, 2#4, 3#4], sleepWake := [.irq 3#4] }

/-- A boundary that offers an IRQ with this vector number. -/
def irqInput (v : Nibble) : BoundaryInput := ⟨false, false, some v⟩

/-- A boundary with an edge on NMI. -/
def nmiInput : BoundaryInput := ⟨false, true, none⟩

/-- A boundary with SR low. -/
def resetInput : BoundaryInput := ⟨true, false, none⟩

/-- The next state, if there is one. -/
def next (s : State) : Option State :=
  match step s with
  | .next t => some t
  | _ => none

/-- V60.1, the boundary after the first NOP: IRQ 3 is entered. -/
theorem test_irq_entry_v60_1 :
    (next { start with pc := 0x0201#16, f := 6#4, cfg := configI, inputs := [irqInput 3#4] }).any (fun t =>
      t.sp1 == 0x3F#8 && t.sp2 == 0x4F#8 && t.q == some 0x0201#16 && t.f == 2#4 && t.pc == 0x0103#16 &&
        wordAt t 0x004F == some 6#4 && wordAt t 0x00FC == some 1#4 && wordAt t 0x00FE == some 2#4 &&
        t.cycles == 3) = true := by decide

/-- V60.3: an NMI edge is entered with I = 0 and acknowledged. -/
theorem test_nmi_entry_v60_3 :
    (next { start with pc := 0x0201#16, f := 1#4, cfg := configI, inputs := [nmiInput] }).map
      (fun t => (t.f, t.pc, t.nmiPending, t.events, wordAt t 0x004F)) =
      some (1#4, 0x0100#16, false, [Event.nmiAck], some 1#4) := by decide

/-- V60.4: with an NMI edge and an IRQ at one boundary the NMI is entered; V60.20: both pointers wrap. -/
theorem test_nmi_before_irq_v60_4 :
    (next { start with pc := 0x0201#16, f := 4#4, cfg := configI, inputs := [⟨false, true, some 3#4⟩] }).map
      (fun t => (t.pc, t.events)) = some (0x0100#16, [Event.nmiAck]) ∧
    (next { start with pc := 0x0201#16, sp1 := 0#8, sp2 := 0#8, f := 4#4, cfg := configI, inputs := [irqInput 1#4] }).map
      (fun t => (t.sp1, t.sp2, wordAt t 0x00FF, wordAt t 0x03FC, wordAt t 0x03FE)) =
      some (0xFF#8, 0xFF#8, some 4#4, some 1#4, some 2#4) := by decide

/-- V60.5, the boundaries before and after `OR %F,4`: refused with I = 0, then deferred; the instruction runs. -/
theorem test_irq_deferred_v60_5 :
    (next { start with cfg := configI, prog := [(0x0200, 0x1094#13)], inputs := [irqInput 1#4] }).map
      (fun t => (t.pc, t.f, t.defer)) = some (0x0201#16, 4#4, true) ∧
    (next { start with
      pc := 0x0201#16, f := 4#4, defer := true, cfg := configI, prog := [(0x0201, 0x1FFE#13)], inputs := [irqInput 1#4] }).map
      (fun t => (t.pc, t.f, t.defer)) = some (0x0202#16, 4#4, false) := by decide

/-- V60.10: an IRQ with I = 0 does not end HALT; V60.11: an NMI does; V60.14: the end of a run in SLEEP. -/
theorem test_standby_v60_10 :
    (next { start with pc := 0x0201#16, run := .halt, cfg := configI, inputs := [irqInput 1#4] }).map (fun t => t.run) =
      some RunState.halt ∧
    (next { start with pc := 0x0201#16, run := .halt, cfg := configI, inputs := [nmiInput] }).map
      (fun t => (t.run, t.pc)) = some (RunState.run, 0x0100#16) ∧
    faultOf (step { start with run := .sleep }) = some .quiescent := by decide

/-- V60.13: a source that `SLEEP_WAKE` lists ends SLEEP; one that it does not list cannot request there (R327 c). -/
theorem test_sleep_wake_v60_13 :
    (next { start with run := .sleep, f := 4#4, cfg := configI, inputs := [irqInput 3#4] }).map
      (fun t => (t.run, t.pc)) = some (RunState.run, 0x0103#16) ∧
    (next { start with run := .sleep, f := 4#4, cfg := configI, inputs := [irqInput 2#4] }).map
      (fun t => (t.run, t.pc)) = some (RunState.sleep, 0x0200#16) := by decide

/-- Reset at a boundary comes before an interrupt (R305, R355); vector number 0 is refused (R304). -/
theorem test_reset_input :
    (next { start with f := 4#4, cfg := configI, inputs := [⟨true, true, some 1#4⟩] }).map
      (fun t => (t.pc, t.pairMask, t.nmiPending)) = some (0x0110#16, PairMask.bothUnset, false) ∧
    refusalOf (step { start with cfg := configI, inputs := [irqInput 0#4] }) = some .irqVectorZero ∧
    refusalOf (step { start with cfg := configI, inputs := [irqInput 4#4] }) = some (.irqNotASource 4#4) := by decide

/-- From reset with a word placed, the very next step fetches and runs it (R351, R356). -/
theorem test_first_instruction :
    (ran State.reset 0x1EC7).map (fun t => (t.a, t.pc, t.cycles)) = some (7#4, 0x0111#16, 1) ∧
    faultOf (step State.reset) = some (.unmappedFetch 0x0110#16) := by decide

/-! ### Witnesses: the hypotheses of the statements are met -/

/-- A state with two operand words, a saved F, a return address in Q and in memory, and `NOP` at PC. -/
def demo : State :=
  { start with
    a := 9#4, b := 8#4, x := 0x60#16, y := 0x61#16, ext := 0x60#8, sp1 := 0x3F#8, sp2 := 0x4F#8, q := some 0x0201#16,
    prog := [(0x0200, 0x1FFE#13)],
    mem := [(0x10, 5#4), (0x4F, 6#4), (0x60, 5#4), (0x61, 10#4), (0xFC, 1#4), (0xFD, 0#4), (0xFE, 2#4), (0xFF, 0#4),
      (0x100, 0#4), (0x101, 0#4), (0x102, 3#4), (0x103, 0#4), (0xFF60, 7#4), (0xFFD0, 3#4)] }

/-- The same with E = 1. -/
def demoE : State := { demo with f := 8#4, defer := true }

/-- The instruction completes. -/
def Completes (i : Instr) (s : State) : Prop := ∃ t, exec i s = .next t

/-- The hypotheses of `ModifiesWord` are met. -/
def CanModify (op : AluOp) (a : Addr) (y : Nibble) (s : State) : Prop :=
  ∃ x s1 s2 o, readWord s a = .ok (x, s1) ∧ op (flagC s.f) x y = o ∧ writeWord s1 a o.res = .ok s2

/-- The hypotheses of `TestsWord` are met. -/
def CanTest (op : AluOp) (a : Addr) (y : Nibble) (s : State) : Prop :=
  ∃ x s1 o, readWord s a = .ok (x, s1) ∧ op (flagC s.f) x y = o

/-- A word can be read. -/
def CanRead (s : State) (a : Addr) : Prop := ∃ v s1, readWord s a = .ok (v, s1)

/-- A word can be written. -/
def CanWrite (s : State) (a : Addr) (v : Nibble) : Prop := ∃ s1, writeWord s a v = .ok s1

theorem witness_DecodeOfEncode : (Instr.adcBAN4 1).wellFormed = true ∧ (Instr.sbcBAN4 16).wellFormed = true := ⟨rfl, rfl⟩

/-- Both ways a boundary is quiet, and a latched NMI that is held off. -/
theorem witness_QuietBoundary :
    QuietBoundary demo ∧ QuietBoundary { demo with inputs := [quietInput] } ∧
    QuietBoundary { demo with nmiPending := true, defer := true } ∧
    QuietBoundary { demo with nmiPending := true, pairMask := .bothUnset } :=
  ⟨⟨rfl, .inl rfl, fun h => nomatch h⟩, ⟨rfl, .inr ⟨[], rfl⟩, fun h => nomatch h⟩, ⟨rfl, .inl rfl, fun _ _ => rfl⟩,
    ⟨rfl, .inl rfl, fun _ h => nomatch h⟩⟩

theorem witness_ReservedWords :
    QuietBoundary { demo with prog := [(0x0200, 0x1FF4#13)] } ∧
    fetch { demo with prog := [(0x0200, 0x1FF4#13)] } = .ok 0x1FF4#13 ∧ 0x1FF4#13 ∈ reservedWords :=
  ⟨⟨rfl, .inl rfl, fun h => nomatch h⟩, rfl, by decide⟩

theorem witness_StepRunsDecodedInstruction :
    (QuietBoundary demo ∧ fetch demo = .ok 0x1FFE#13 ∧ decode 0x1FFE#13 = some .nop) ∧
    ∃ s : State, s = { demo with cfg := configI, inputs := [irqInput 1#4] } ∧ s.run = .run ∧
      inputRefusal s.cfg (irqInput 1#4) = none ∧ (irqInput 1#4).reset = false ∧
      accepted (irqLine (irqInput 1#4) (afterInput s)) (latchNmi (irqInput 1#4) (afterInput s)) = none ∧
      fetch s = .ok 0x1FFE#13 ∧ decode 0x1FFE#13 = some .nop :=
  ⟨⟨⟨rfl, .inl rfl, fun h => nomatch h⟩, rfl, rfl⟩, _, rfl, rfl, rfl, rfl, rfl, rfl, rfl⟩

/-- A fetch outside `ROM_WORDS`, at its first address, and a fetch of an absent word. -/
theorem witness_FetchReadsProgramMemory :
    (∃ s : State, s = { demo with cfg := { configT with romWords := 0x0200 } } ∧ QuietBoundary s ∧
      s.cfg.romWords ≤ s.pc.toNat) ∧
    ∃ s : State, s = { demo with pc := 0x0201#16 } ∧ QuietBoundary s ∧ Cells.lookup s.prog s.pc.toNat = none :=
  ⟨⟨_, rfl, ⟨rfl, .inl rfl, fun h => nomatch h⟩, by decide⟩, ⟨_, rfl, ⟨rfl, .inl rfl, fun h => nomatch h⟩, rfl⟩⟩

theorem witness_ExtMisuseExactly :
    (flagE demoE.f = true ∧ extValid .nop = false) ∧
    (∃ a w, exec .nop demoE = .fault (.extMisuse a w)) ∧
    (QuietBoundary demoE ∧ fetch demoE = .ok 0x1FFE#13 ∧ decode 0x1FFE#13 = some .nop ∧ flagE demoE.f = true ∧
      extValid .nop = false) :=
  ⟨⟨rfl, rfl⟩, ⟨_, _, rfl⟩, ⟨rfl, .inl rfl, fun h => nomatch h⟩, rfl, rfl, rfl, rfl⟩

theorem witness_CyclesOfEveryInstruction :
    Completes .nop demo ∧ Completes .halt demo ∧ Completes (.intImm6 1#6) demo ∧
    ∃ t, enterInterrupt 1#4 demo = .ok t := ⟨⟨_, rfl⟩, ⟨_, rfl⟩, ⟨_, rfl⟩, ⟨_, rfl⟩⟩

theorem witness_ProgramCounterAdvance :
    (Completes .ldAB demo ∧ transfersControl .ldAB = false) ∧
    (Completes (JumpCond.carry.instr 0x80#8) demo ∧ JumpCond.carry.holds demo.f = false) ∧
    (Completes (JumpCond.noCarry.instr 0x7F#8) demo ∧ JumpCond.noCarry.holds demo.f = true) ∧
    Completes (.calrSign8 0xFF#8) demo ∧ Completes (.calrSign8 0xFF#8) demoE ∧ Completes (.calzImm8 0xFF#8) demo ∧
    Completes (.intImm6 0x3F#6) demo ∧ Completes .ret demo ∧ Completes .reti demo ∧ Completes (.retdImm8 0xA5#8) demo ∧
    Completes .rets demo ∧ Completes .jpY demo ∧ Completes .jrA demo ∧ Completes .jrBA demo ∧
    Completes (.jrMemAddr6 0x10#6) demo ∧ Completes (.calrMemAddr6 0x10#6) demo ∧
    kindAt demo.cfg (Page.low.address 0x10#6) ≠ some .io := by
  refine ⟨⟨⟨_, rfl⟩, rfl⟩, ⟨⟨_, rfl⟩, rfl⟩, ⟨⟨_, rfl⟩, rfl⟩, ⟨_, rfl⟩, ⟨_, rfl⟩, ⟨_, rfl⟩, ⟨_, rfl⟩, ⟨_, rfl⟩, ⟨_, rfl⟩, ⟨_, rfl⟩,
    ⟨_, rfl⟩, ⟨_, rfl⟩, ⟨_, rfl⟩, ⟨_, rfl⟩, ⟨_, rfl⟩, ⟨_, rfl⟩, by decide⟩

theorem witness_ExtensionFlagIsConsumed :
    (Completes .nop demo ∧ replacesF .nop = false) ∧ (Completes .ldAMemX demoE ∧ replacesF .ldAMemX = false) ∧
    (Completes (.ldbEXTImm8 1#8) demo ∧ replacesF (.ldbEXTImm8 1#8) = false) ∧ Completes .ldbEXTBA demo ∧
    Completes .ldFA demo ∧ Completes (.ldFImm4 8#4) demo ∧ Completes (.andFImm4 8#4) demo ∧ Completes (.orFImm4 8#4) demo ∧
    Completes (.xorFImm4 8#4) demo ∧ Completes .popF demo ∧ Completes .reti demo ∧ flagE demo.f = false ∧
    flagE demoE.f = true ∧ eaSp2 (demo.sp2 - 1#8) ∉ entry16 (demo.sp1 - 1#8) ∧ (∃ t, enterInterrupt 1#4 demo = .ok t) ∧
    Completes (.intImm6 1#6) demo ∧
    (flagE { demo with nmiPending := true }.f = true → { demo with nmiPending := true }.defer = true) ∧
    ∃ t, accepted none { demo with nmiPending := true } = some (.ok t) :=
  ⟨⟨⟨_, rfl⟩, rfl⟩, ⟨⟨_, rfl⟩, rfl⟩, ⟨⟨_, rfl⟩, rfl⟩, ⟨_, rfl⟩, ⟨_, rfl⟩, ⟨_, rfl⟩, ⟨_, rfl⟩, ⟨_, rfl⟩, ⟨_, rfl⟩, ⟨_, rfl⟩,
    ⟨_, rfl⟩, rfl, rfl, by decide, ⟨_, rfl⟩, ⟨_, rfl⟩, by decide, _, rfl⟩

theorem witness_DeferralMarker :
    Completes (.ldFImm4 8#4) demo ∧ Completes .ldbSP2BA demo ∧ Completes .nop demo ∧ demoE.defer = true :=
  ⟨⟨_, rfl⟩, ⟨_, rfl⟩, ⟨_, rfl⟩, rfl⟩

theorem witness_PairMaskTransitions :
    (Completes .incSP1 demo ∧ setsPointer .incSP1 = none) ∧
    (∀ m ∈ [PairMask.bothUnset, .pairSet, .oneSet .sp1, .oneSet .sp2],
      ∀ p ∈ [(Instr.ldbSP1BA, StackPtr.sp1), (.ldbSP2BA, .sp2)],
      setsPointer p.1 = some p.2 ∧ Completes p.1 { demo with pairMask := m }) ∧
    { demo with pairMask := .oneSet .sp1 }.pairMask ≠ .pairSet ∧ Completes (.intImm6 1#6) demo := by
  refine ⟨⟨⟨_, rfl⟩, rfl⟩, ?_, by decide, ⟨_, rfl⟩⟩
  intro m hm p hp
  fin_cases hm <;> fin_cases hp <;> exact ⟨rfl, _, rfl⟩

theorem witness_InterruptFlag :
    (Completes .nop demo ∧ replacesF .nop = false) ∧ (∃ t, enterInterrupt 1#4 demo = .ok t) ∧
    (flagI demo.f = false ∧ demo.nmiPending = false) ∧
    (∃ s : State, s = { demo with f := 4#4 } ∧ s.pairMask = .pairSet ∧ s.defer = false ∧ s.nmiPending = false ∧
      flagI s.f = true) ∧
    (∃ s : State, s = { demo with nmiPending := true } ∧ s.pairMask = .pairSet ∧ s.defer = false ∧
      s.nmiPending = true) ∧
    Completes (.intImm6 0#6) demo :=
  ⟨⟨⟨_, rfl⟩, rfl⟩, ⟨_, rfl⟩, ⟨rfl, rfl⟩, ⟨_, rfl, rfl, rfl, rfl, rfl⟩, ⟨_, rfl, rfl, rfl, rfl⟩, ⟨_, rfl⟩⟩

theorem witness_CarryAndZeroFrame :
    (Completes .andAB demo ∧ writesC .andAB = false) ∧ (Completes .ldAB demo ∧ writesZ .ldAB = false) :=
  ⟨⟨⟨_, rfl⟩, rfl⟩, ⟨⟨_, rfl⟩, rfl⟩⟩

theorem witness_RegisterFrame :
    (Completes .ldAMemXInc demo ∧ RegName.y ∉ writtenRegs .ldAMemXInc) ∧
    (Completes .pushX demo ∧ RegName.x ∉ writtenRegs .pushX) := by
  exact ⟨⟨⟨_, rfl⟩, by decide⟩, ⟨⟨_, rfl⟩, by decide⟩⟩

/-- A store, a 16-bit store, and their neighbours below and above. -/
theorem witness_MemoryFrame :
    (Completes .ldMemXA demo ∧ (∀ a ∈ storedAddresses .ldMemXA demo, a.toNat ≠ 0x5F) ∧
      ∀ a ∈ storedAddresses .ldMemXA demo, a.toNat ≠ 0x61) ∧
    (Completes .pushX demo ∧ (∀ a ∈ storedAddresses .pushX demo, a.toNat ≠ 0xF7) ∧
      ∀ a ∈ storedAddresses .pushX demo, a.toNat ≠ 0xFC) := by
  have h : storedAddresses .ldMemXA demo = [0x60#16] := rfl
  have h' : storedAddresses .pushX demo = [0xF8#16, 0xF9#16, 0xFA#16, 0xFB#16] := rfl
  rw [h, h']
  exact ⟨⟨⟨_, rfl⟩, by simp, by simp⟩, ⟨_, rfl⟩, by simp, by simp⟩

theorem witness_CoreFrame :
    Completes .nop demo ∧ Completes .halt demo ∧ Completes .slp demo ∧ Instr.nop ≠ .halt ∧ Instr.nop ≠ .slp := by
  exact ⟨⟨_, rfl⟩, ⟨_, rfl⟩, ⟨_, rfl⟩, by decide, by decide⟩

/-- A state with a listed word that X, or EXT with E = 1, points to, and an instruction that loads it, in the standard configuration. -/
def demoInv (f : Nibble) (d : Bool) : State :=
  { State.reset with f := f, defer := d, x := 0x10#16, ext := 0x10#8, mem := [(0x10, 5#4)], prog := [(0x0110, 0x1EE0#13)] }

/-- The standard configuration is one a family model can have. -/
theorem standard_legal : Config.standard.Legal := by
  refine ⟨by decide, by decide, by decide, ?_, (fun v h => nomatch h), (fun v h => nomatch h)⟩
  intro a _ h
  have : a < 0x400 := h
  simp only [Config.standard, kindIn]
  rw [if_pos ⟨Nat.zero_le _, by omega⟩]

theorem witness_StepKeepsInvariant :
    ((demoInv 0#4 false).Inv ∧ ∃ t, step (demoInv 0#4 false) = .next t) ∧
    ((demoInv 8#4 true).Inv ∧ ∃ t, step (demoInv 8#4 true) = .next t) ∧
    ∃ s : State, s = { demoInv 0#4 false with inReset := true } ∧ s.Inv ∧ ∃ t, step s = .next t := by
  have h : ∀ (f : Nibble) (d : Bool), (flagE f = true → d = true) → (demoInv f d).Inv := by
    intro f d hd
    refine ⟨rfl, rfl, standard_legal, ?_, hd, fun h => (h rfl).elim, fun h => nomatch h⟩
    intro a v ha
    simp only [demoInv, Cells.lookup] at ha
    split at ha
    · subst a; exact .inl rfl
    · cases ha
  have h0 := h 0#4 false (fun h => nomatch h)
  exact ⟨⟨h0, _, rfl⟩, ⟨h _ _ (fun _ => rfl), _, rfl⟩, _, rfl,
    ⟨h0.memory, h0.program, h0.config, h0.contents, h0.extended, h0.standby, fun _ => ⟨rfl, rfl, rfl, rfl, rfl⟩⟩, _, rfl⟩

/-- A step that stores, with a data word that is not RAM: the first one past the mounted space. -/
theorem witness_StepWritesOnlyRam :
    Config.standard.Legal ∧
    (∃ s t : State, s = { demo with cfg := Config.standard, prog := [(0x0200, 0x1EE8#13)] } ∧ step s = .next t) ∧
    kindIn Config.standard.dataMap 0xFF00 ≠ some .ram := by
  exact ⟨standard_legal, ⟨_, _, rfl, rfl⟩, by decide⟩

/-- Both sides of the sum where they meet, at the ends of the radix range and between. -/
theorem witness_RadixAddition :
    (1 ≤ (1 : Nat) ∧ (16 : Nat) ≤ 16) ∧ (10 : Nat) ≤ (5#4).toNat + (5#4).toNat + false.toNat ∧
    (5#4).toNat + (4#4).toNat + false.toNat < 10 ∧ (9#4).toNat < 10 := by decide

/-- The difference -1 and the difference 0. -/
theorem witness_RadixSubtraction :
    (1 ≤ (1 : Nat) ∧ (16 : Nat) ≤ 16) ∧ ((0#4).toNat : Int) - (0#4).toNat - true.toNat < 0 ∧
    0 ≤ ((1#4).toNat : Int) - (0#4).toNat - true.toNat := by decide

theorem witness_LogicOperations : (0 : Nat) < 4 ∧ 3 < 4 ∧ ∃ o, o = BinOp.and.alu true 5#4 3#4 := ⟨by decide, by decide, _, rfl⟩

theorem witness_BinaryOnRegisters :
    flagE demo.f = false ∧ (∃ o, BinOp.adc.alu (flagC demo.f) (demo.reg .a) (demo.reg .b) = o) ∧
    ∃ o, BinOp.xor.alu (flagC demo.f) (demo.reg .b) 0xF#4 = o := ⟨rfl, ⟨_, rfl⟩, ⟨_, rfl⟩⟩

/-- The word of `[%X]` and of `[%Y]`, with E = 0 and with E = 1, and of the post-increment forms. -/
theorem witness_BinaryFromMemory :
    CanRead demo (eaInd demo .x) ∧ CanRead demo (eaInd demo .y) ∧ CanRead demoE (eaInd demoE .x) ∧
    CanRead demoE (eaInd demoE .y) ∧ flagE demo.f = false ∧ CanRead demo (demo.idx .x) ∧ CanRead demo (demo.idx .y) :=
  ⟨⟨_, _, rfl⟩, ⟨_, _, rfl⟩, ⟨_, _, rfl⟩, ⟨_, _, rfl⟩, rfl, ⟨_, _, rfl⟩, ⟨_, _, rfl⟩⟩

theorem witness_BinaryToMemory :
    CanModify BinOp.add.alu (eaInd demo .x) (demo.reg .a) demo ∧
    CanModify BinOp.or.alu (eaInd demoE .x) (demoE.reg .b) demoE ∧ CanModify BinOp.sbc.alu (eaInd demoE .y) 3#4 demoE ∧
    flagE demo.f = false ∧ CanModify BinOp.sub.alu (demo.idx .y) (demo.reg .b) demo ∧
    CanModify BinOp.adc.alu (demo.idx .x) 0xF#4 demo :=
  ⟨⟨_, _, _, _, rfl, rfl, rfl⟩, ⟨_, _, _, _, rfl, rfl, rfl⟩, ⟨_, _, _, _, rfl, rfl, rfl⟩, rfl,
    ⟨_, _, _, _, rfl, rfl, rfl⟩, ⟨_, _, _, _, rfl, rfl, rfl⟩⟩

theorem witness_CompareAndBitTest :
    flagE demo.f = false ∧ CanRead demo (eaInd demo .x) ∧ CanRead demoE (eaInd demoE .y) ∧ CanRead demo (demo.idx .y) ∧
    CanTest TestOp.cmp.alu (eaInd demo .x) (demo.reg .a) demo ∧ CanTest TestOp.bit.alu (eaInd demoE .y) 1#4 demoE ∧
    CanTest TestOp.cmp.alu (demo.idx .y) (demo.reg .b) demo ∧ CanTest TestOp.bit.alu (demo.idx .x) 0#4 demo :=
  ⟨rfl, ⟨_, _, rfl⟩, ⟨_, _, rfl⟩, ⟨_, _, rfl⟩, ⟨_, _, _, rfl, rfl⟩, ⟨_, _, _, rfl, rfl⟩, ⟨_, _, _, rfl, rfl⟩,
    ⟨_, _, _, rfl, rfl⟩⟩

theorem witness_RadixToRegister :
    (flagE demo.f = false ∧ 9#4 = demo.a) ∧ CanRead demo (eaInd demo .x) ∧ CanRead demoE (eaInd demoE .y) ∧
    CanRead demo (demo.idx .y) := ⟨⟨rfl, rfl⟩, ⟨_, _, rfl⟩, ⟨_, _, rfl⟩, ⟨_, _, rfl⟩⟩

theorem witness_RadixToMemory :
    CanModify (RadixOp.adc.alu 10) (eaInd demo .x) demo.b demo ∧
    CanModify (RadixOp.sbc.alu 1) (eaInd demoE .y) 0#4 demoE ∧ CanModify (StepOp.inc.alu 16) (eaInd demoE .x) 1#4 demoE ∧
    flagE demo.f = false ∧ CanModify (RadixOp.sbc.alu 10) (demo.idx .y) demo.b demo ∧
    CanModify (RadixOp.adc.alu 10) (demo.idx .x) 0#4 demo ∧ CanModify (StepOp.dec.alu 10) (demo.idx .x) 1#4 demo :=
  ⟨⟨_, _, _, _, rfl, rfl, rfl⟩, ⟨_, _, _, _, rfl, rfl, rfl⟩, ⟨_, _, _, _, rfl, rfl, rfl⟩, rfl,
    ⟨_, _, _, _, rfl, rfl, rfl⟩, ⟨_, _, _, _, rfl, rfl, rfl⟩, ⟨_, _, _, _, rfl, rfl, rfl⟩⟩

theorem witness_ShiftForms :
    flagE demo.f = false ∧ CanModify ShiftOp.rl.alu (eaInd demo .x) 0#4 demo ∧
    CanModify ShiftOp.rr.alu (eaInd demoE .y) 0#4 demoE ∧ CanModify ShiftOp.sll.alu (demo.idx .y) 0#4 demo :=
  ⟨rfl, ⟨_, _, _, _, rfl, rfl, rfl⟩, ⟨_, _, _, _, rfl, rfl, rfl⟩, ⟨_, _, _, _, rfl, rfl, rfl⟩⟩

theorem witness_AbsoluteForms :
    flagE demo.f = false ∧ CanModify BinOp.add.alu (Page.low.address 0x10#6) 1#4 demo ∧
    CanModify BinOp.sub.alu (Page.low.address 0x10#6) 1#4 demo ∧
    (∀ j : Nat, j < 4 → (8#4).getLsbD j = decide (j = (3#2).toNat)) ∧
    (∀ j : Nat, j < 4 → (1#4).getLsbD j = decide (j = (0#2).toNat)) ∧
    CanModify BinOp.and.alu (Page.high.address 0x10#6) (~~~8#4) demo ∧
    CanModify BinOp.or.alu (Page.low.address 0x10#6) 8#4 demo ∧
    CanTest TestOp.bit.alu (Page.high.address 0x10#6) 1#4 demo :=
  ⟨rfl, ⟨_, _, _, _, rfl, rfl, rfl⟩, ⟨_, _, _, _, rfl, rfl, rfl⟩, by decide, by decide, ⟨_, _, _, _, rfl, rfl, rfl⟩,
    ⟨_, _, _, _, rfl, rfl, rfl⟩, ⟨_, _, _, rfl, rfl⟩⟩

theorem witness_FlagWritingForms :
    flagE demo.f = false ∧ kindAt demo.cfg (eaSp2 demo.sp2) = some .ram ∧
    wordAt demo (eaSp2 demo.sp2).toNat = some 6#4 := ⟨rfl, rfl, rfl⟩

theorem witness_RegisterTransfers : flagE demo.f = false ∧ flagE demoE.f = true := ⟨rfl, rfl⟩

theorem witness_LoadsAndStores :
    CanRead demo (eaInd demo .x) ∧ CanRead demoE (eaInd demoE .y) ∧ flagE demo.f = false ∧ CanRead demo (demo.idx .y) ∧
    CanWrite demo (eaInd demo .x) (demo.reg .a) ∧ CanWrite demoE (eaInd demoE .y) 0xF#4 ∧
    CanWrite demo (demo.idx .y) (demo.reg .b) ∧ CanWrite demo (demo.idx .x) 0#4 :=
  ⟨⟨_, _, rfl⟩, ⟨_, _, rfl⟩, rfl, ⟨_, _, rfl⟩, ⟨_, rfl⟩, ⟨_, rfl⟩, ⟨_, rfl⟩, ⟨_, rfl⟩⟩

theorem witness_CopiesAndExchanges :
    (∃ v s1 s2, flagE demo.f = false ∧ readWord demo (demo.idx (otherIdx .x)) = .ok (v, s1) ∧
      writeWord s1 (demo.idx .x) v = .ok s2) ∧
    (∃ v s1 s2, readWord demoE (eaInd demoE .y) = .ok (v, s1) ∧ writeWord s1 (eaInd demoE .y) (demoE.reg .a) = .ok s2) ∧
    ∃ v s1 s2, flagE demo.f = false ∧ readWord demo (demo.idx .y) = .ok (v, s1) ∧
      writeWord s1 (demo.idx .y) (demo.reg .b) = .ok s2 :=
  ⟨⟨_, _, _, rfl, rfl, rfl⟩, ⟨_, _, _, rfl, rfl⟩, ⟨_, _, _, rfl, rfl, rfl⟩⟩

theorem witness_ByteTransfers :
    flagE demo.f = false ∧ flagE demoE.f = true ∧ 0x3F#8 = ByteReg.sp1.read demo ∧ 0x00#8 = ByteReg.xh.read demo :=
  ⟨rfl, rfl, rfl, rfl⟩

/-- Two words of the read, and the write across the wrap from FFFFH to 0000H. -/
theorem witness_ByteLoadsAndStores :
    (∃ lo hi s1 s2, flagE demo.f = false ∧ readWord demo (demo.idx .x) = .ok (lo, s1) ∧
      readWord s1 (demo.idx .x + 1#16) = .ok (hi, s2)) ∧
    (∃ s s1 s2 : State, s = { demo with y := 0xFFFF#16 } ∧ flagE s.f = false ∧ writeWord s (s.idx .y) s.a = .ok s1 ∧
      writeWord s1 (s.idx .y + 1#16) s.b = .ok s2) ∧
    ∃ s1 s2, writeWord demo demo.x 0xF#4 = .ok s1 ∧ writeWord s1 (demo.x + 1#16) 0#4 = .ok s2 :=
  ⟨⟨_, _, _, _, rfl, rfl, rfl⟩, ⟨_, _, _, rfl, rfl, rfl, rfl⟩, ⟨_, _, rfl, rfl⟩⟩

/-- SP1 in the middle and at both ends of its range, in the whole 16-bit RAM and in a part of it. -/
theorem witness_StackPointerForms :
    flagE demo.f = false ∧ inRam16 demo.cfg (eaSp1 (demo.b ++ demo.a)) = true ∧
    inRam16 demo.cfg (eaSp1 (0xFF#8 + 1#8)) = true ∧ inRam16 demo.cfg (eaSp1 (0x00#8 - 1#8)) = true ∧
    inRam16 { configT with ram16Hi := 0x200 } (eaSp1 0x7F#8) = true ∧
    inRam16 { configT with ram16Hi := 0x200 } (eaSp1 0x80#8) = false := ⟨rfl, rfl, rfl, rfl, rfl, rfl⟩

theorem witness_IndexArithmetic :
    (flagE demo.f = false ∧ (0x89#16 : Addr).toNat = demo.b.toNat * 16 + demo.a.toNat) ∧
    (if flagE demo.f then (0xFF80#16 : Addr) = demo.ext ++ 0x80#8 else (0xFF80#16 : Addr).toInt = (0x80#8).toInt) ∧
    (if flagE demoE.f then (0x6080#16 : Addr) = demoE.ext ++ 0x80#8 else (0x6080#16 : Addr).toInt = (0x80#8).toInt) ∧
    (0xA2 : Nat) = (if flagE demo.f then (255 - demo.ext.toNat) * 256 + (0xA2#8).toNat else (0xA2#8).toNat) ∧
    (0x9FA2 : Nat) = (if flagE demoE.f then (255 - demoE.ext.toNat) * 256 + (0xA2#8).toNat else (0xA2#8).toNat) := by
  decide

/-- SP2 in RAM, written and not, and in data ROM and at an I/O word at the ends of its range. -/
theorem witness_DataStackForms :
    flagE demo.f = false ∧ kindAt demo.cfg (eaSp2 (demo.sp2 - 1#8)) = some .ram ∧
    kindAt demo.cfg (eaSp2 demo.sp2) = some .ram ∧ wordAt demo (eaSp2 demo.sp2).toNat = some 6#4 ∧
    wordAt demo (eaSp2 0x50#8).toNat = none ∧
    kindAt { configT with dataMap := [⟨0, 1, .rom⟩, ⟨255, 1, .io⟩] } (eaSp2 (0x00#8 - 1#8)) ≠ some .ram ∧
    kindAt { configT with dataMap := [⟨0, 1, .rom⟩, ⟨255, 1, .io⟩] } (eaSp2 0x00#8) ≠ some .ram := by decide

theorem witness_AddressStackForms :
    flagE demo.f = false ∧ inRam16 demo.cfg (eaSp1 (demo.sp1 - 1#8)) = true ∧
    inRam16 demo.cfg (eaSp1 (demo.sp1 + 1#8)) = true ∧ demo.q = some 0x0201#16 ∧
    ∃ s : State, s = { demo with q := none } ∧ flagE s.f = false ∧ s.q = none := ⟨rfl, rfl, rfl, rfl, _, rfl, rfl, rfl⟩

theorem witness_RelativeJumps :
    (if flagE demo.f then (0xFF80#16 : Addr) = demo.ext ++ 0x80#8 else (0xFF80#16 : Addr).toInt = (0x80#8).toInt) ∧
    (if flagE demo.f then (0x007F#16 : Addr) = demo.ext ++ 0x7F#8 else (0x007F#16 : Addr).toInt = (0x7F#8).toInt) ∧
    (if flagE demoE.f then (0x6088#16 : Addr) = demoE.ext ++ 0x88#8 else (0x6088#16 : Addr).toInt = (0x88#8).toInt) := by
  decide

theorem witness_RegisterJumps : flagE demo.f = false ∧ CanRead demo (Page.low.address 0x10#6) := ⟨rfl, _, _, rfl⟩

theorem witness_Calls :
    inRam16 demo.cfg (eaSp1 (demo.sp1 - 1#8)) = true ∧ flagE demo.f = false ∧
    inRam16 demoE.cfg (eaSp1 (demoE.sp1 - 1#8)) = true ∧
    CanRead (pushed16 demo (nextPc demo)) (Page.low.address 0x10#6) ∧
    (if flagE demoE.f then (0x60FF#16 : Addr) = demoE.ext ++ 0xFF#8 else (0x60FF#16 : Addr).toInt = (0xFF#8).toInt) :=
  ⟨rfl, rfl, rfl, ⟨_, _, rfl⟩, rfl⟩

theorem witness_Returns :
    flagE demo.f = false ∧ demo.q = some 0x0201#16 ∧ inRam16 demo.cfg (eaSp1 (demo.sp1 + 1#8)) = true ∧
    (∃ s1 s2, writeWord (popped16 demo) demo.x 5#4 = .ok s1 ∧ writeWord s1 (demo.x + 1#16) 0xA#4 = .ok s2) ∧
    ∃ s : State, s = { demo with q := none } ∧ flagE s.f = false ∧ s.q = none :=
  ⟨rfl, rfl, rfl, ⟨_, _, rfl, rfl⟩, _, rfl, rfl, rfl⟩

theorem witness_SoftwareInterruptAndReturn :
    flagE demo.f = false ∧ kindAt demo.cfg (eaSp2 (demo.sp2 - 1#8)) = some .ram ∧
    inRam16 demo.cfg (eaSp1 (demo.sp1 - 1#8)) = true ∧ demo.q = some 0x0201#16 ∧
    inRam16 demo.cfg (eaSp1 (demo.sp1 + 1#8)) = true ∧ kindAt demo.cfg (eaSp2 demo.sp2) = some .ram ∧
    wordAt demo (eaSp2 demo.sp2).toNat = some 6#4 ∧
    ∃ s : State, s = { demo with q := none } ∧ flagE s.f = false ∧ s.q = none :=
  ⟨rfl, rfl, rfl, rfl, rfl, rfl, rfl, _, rfl, rfl, rfl⟩

theorem witness_SystemForms : flagE demo.f = false ∧ Completes .halt demo ∧ Completes .slp demo :=
  ⟨rfl, ⟨_, rfl⟩, ⟨_, rfl⟩⟩

theorem witness_AcceptanceConditions :
    (∃ s : State, s = { demo with nmiPending := true } ∧ s.pairMask = .pairSet ∧ s.defer = false ∧
      s.nmiPending = true) ∧
    ∃ s : State, s = { demo with f := 4#4 } ∧ s.pairMask = .pairSet ∧ s.defer = false ∧ s.nmiPending = false ∧
      flagI s.f = true := ⟨⟨_, rfl, rfl, rfl, rfl⟩, ⟨_, rfl, rfl, rfl, rfl, rfl⟩⟩

theorem witness_HardwareInterruptEntry :
    kindAt demo.cfg (eaSp2 (demo.sp2 - 1#8)) = some .ram ∧ inRam16 demo.cfg (eaSp1 (demo.sp1 - 1#8)) = true := ⟨rfl, rfl⟩

/-- A reset, an accepted NMI, a moment of standby, and a latched NMI with nothing more on offer, in RUN and in SLEEP. -/
theorem witness_BoundaryOrder :
    (inputRefusal demo.cfg resetInput = none ∧ resetInput.reset = true) ∧
    (∃ s : State, s = { demo with inputs := [nmiInput] } ∧ inputRefusal s.cfg nmiInput = none ∧ nmiInput.reset = false ∧
      ∃ r, accepted (irqLine nmiInput (afterInput s)) (latchNmi nmiInput (afterInput s)) = some r) ∧
    (∃ s : State, s = { demo with run := .halt, inputs := [quietInput] } ∧ inputRefusal s.cfg quietInput = none ∧
      accepted (irqLine quietInput (afterInput s)) (latchNmi quietInput (afterInput s)) = none ∧ s.run ≠ .run) ∧
    ∀ r ∈ [RunState.run, .sleep], ∃ s : State, s = { demo with run := r, nmiPending := true } ∧ s.inputs = [] ∧
      s.nmiPending = true ∧ s.pairMask = .pairSet ∧ s.defer = false ∧ (next s).isSome = true :=
  ⟨⟨rfl, rfl⟩, ⟨_, rfl, rfl, rfl, _, rfl⟩, ⟨_, rfl, rfl, rfl, by decide⟩, fun r _ => ⟨_, rfl, rfl, rfl, rfl, rfl, by
    cases r <;> rfl⟩⟩

theorem witness_ReturnUndoesEntry :
    flagE demo.f = false ∧ kindAt demo.cfg (eaSp2 (demo.sp2 - 1#8)) = some .ram ∧
    inRam16 demo.cfg (eaSp1 (demo.sp1 - 1#8)) = true ∧ inRam16 demo.cfg (eaSp1 demo.sp1) = true ∧
    eaSp2 (demo.sp2 - 1#8) ∉ entry16 (demo.sp1 - 1#8) := by decide

theorem witness_ResetState :
    (∃ t, t = resetEvent demo) ∧ (∃ t, step { demo with inputs := [resetInput] } = .next t) ∧ ∃ t, step demo = .next t :=
  ⟨⟨_, rfl⟩, ⟨_, rfl⟩, ⟨_, rfl⟩⟩

/-- A step in standby for each of the three ways on, and the end of a run. -/
theorem witness_StandbyKeepsState :
    (∃ s t : State, s = { demo with run := .sleep, inputs := [resetInput] } ∧ s.run ≠ .run ∧ step s = .next t) ∧
    (∃ s t : State, s = { demo with run := .halt, inputs := [nmiInput] } ∧ s.run ≠ .run ∧ step s = .next t) ∧
    (∃ s t : State, s = { demo with run := .halt, inputs := [quietInput] } ∧ s.run ≠ .run ∧ step s = .next t) ∧
    ∃ s : State, s = { demo with run := .sleep } ∧ s.run ≠ .run ∧ s.inputs = [] :=
  ⟨⟨_, _, rfl, by decide, rfl⟩, ⟨_, _, rfl, by decide, rfl⟩, ⟨_, _, rfl, by decide, rfl⟩, ⟨_, rfl, by decide, rfl⟩⟩

/-- Configuration T with data ROM and I/O in the top two words and nothing below them; in the host's tables the I/O word
gives back the 5 that was written to it. -/
def configM : Config :=
  { configT with
    dataMap := [⟨0, 0xFF00, .ram⟩, ⟨0xFFFE, 1, .rom⟩, ⟨0xFFFF, 1, .io⟩]
    io := ⟨[⟨1, 0xFFFF#16, 5#4, 1⟩], [⟨0, 0xFFFF#16, 5#4, 1⟩], [(1, 0)]⟩ }

/-- A write to the I/O word is what the next read gives (R52); a reset takes the peripheral back to its first state. -/
theorem test_io_behaviour :
    (ran { start with cfg := configM, a := 5#4, x := 0xFFFF#16 } 0x1EE8).map (fun t => (t.periph, t.events)) =
      some (1, [Event.ioWrite 0xFFFF#16 5#4]) ∧
    (ran { start with cfg := configM, x := 0xFFFF#16, periph := 1 } 0x1EE0).map (fun t => (t.a, t.periph, t.events)) =
      some (5#4, 1, [Event.ioRead 0xFFFF#16 5#4]) ∧
    (next { start with cfg := configM, periph := 1, inputs := [resetInput] }).map (fun t => (t.periph, pinStop t)) =
      some (0, false) := by decide

/-- A 4-bit stack access to data ROM or to an I/O word is a model fault (R290 i). -/
theorem test_stack4_not_ram :
    faulted { start with cfg := { configT with dataMap := [⟨0, 1, .rom⟩, ⟨255, 1, .io⟩] }, sp2 := 0#8, mem := [(0, 1#4)] } 0x1FEF =
      some (.unmappedRead 0#16) ∧
    faulted { start with cfg := { configT with dataMap := [⟨0, 1, .rom⟩, ⟨255, 1, .io⟩] }, sp2 := 0#8 } 0x1FE7 =
      some (.unmappedWrite 0xFF#16) := by decide

/-- Addresses of every kind, at the ends of the ranges. -/
theorem witness_DataAccesses :
    kindAt configM 0xFEFF#16 = some .ram ∧ kindAt configM 0xFF00#16 = none ∧ kindAt configM 0xFFFD#16 = none ∧
    kindAt configM 0xFFFE#16 = some .rom ∧ kindAt configM 0xFFFF#16 = some .io ∧ wordAt demo 0x60 = some 5#4 ∧
    wordAt demo 0x62 = none ∧ configM.io.writeRow 0 0xFFFF#16 5#4 = some ⟨0, 0xFFFF#16, 5#4, 1⟩ ∧
    configM.io.readRow 1 0xFFFF#16 = some ⟨1, 0xFFFF#16, 5#4, 1⟩ := by decide

theorem witness_SixteenBitEntries :
    inRam16 demo.cfg (eaSp1 (demo.sp1 - 1#8)) = true ∧ (0 : Nat) < 4 ∧ (3 : Nat) < 4 ∧
    (0xF7 : Nat) < 4 * (demo.sp1 - 1#8).toNat ∧ 4 * (demo.sp1 - 1#8).toNat + 4 ≤ 0xFC ∧
    (∃ s : State, s = { demo with cfg := { configT with ram16Hi := 0xF8 } } ∧
      inRam16 s.cfg (eaSp1 (s.sp1 - 1#8)) = false ∧ inRam16 s.cfg (eaSp1 0x3E#8) = false) :=
  ⟨rfl, by decide, by decide, by decide, by decide, _, rfl, rfl, rfl⟩

theorem witness_ExtendedAddresses : flagE demo.f = false ∧ flagE demoE.f = true := ⟨rfl, rfl⟩

theorem witness_QueueHoldsTheTopEntry :
    (Completes .pushX demo ∧ RegName.q ∈ writtenRegs .pushX ∧ ∀ b, Instr.pushX ≠ .retdImm8 b) ∧
    (Completes .ldMemXA demo ∧ RegName.q ∉ writtenRegs .ldMemXA ∧
      (∀ a ∈ storedAddresses .ldMemXA demo, a ∉ entry16 demo.sp1) ∧
      demo.q = lookup16 demo.mem (eaSp1 demo.sp1).toNat) ∧
    Completes (.retdImm8 0xA5#8) demo := by
  have h : storedAddresses .ldMemXA demo = [0x60#16] := rfl
  rw [h]
  exact ⟨⟨⟨_, rfl⟩, by decide, fun _ => nofun⟩, ⟨⟨_, rfl⟩, by decide, by simp [entry16, eaSp1, demo], rfl⟩, ⟨_, rfl⟩⟩

theorem witness_RequestLines :
    (∃ s : State, s = { demo with inputs := [irqInput 0#4] } ∧ s.inputs = irqInput 0#4 :: [] ∧
      (irqInput 0#4).irq = some 0#4) ∧
    ∃ s : State, s = { demo with inputs := [irqInput 0xF#4] } ∧ (irqInput 0xF#4).irq = some 0xF#4 ∧ 0xF#4 ≠ 0#4 ∧
      0xF#4 ∉ s.cfg.irqSources := ⟨⟨_, rfl, rfl, rfl⟩, ⟨_, rfl, rfl, by decide, by decide⟩⟩

end Sys2Proof.Tests
end

section
/-! O56: what a 4-bit access to data memory answers by what is mounted at the address (R44, R45, R52, R358). -/

namespace Sys2Proof.Machine

theorem readWord_of_unwritten {s : State} {a : Addr} (hk : kindAt s.cfg a = some .ram ∨ kindAt s.cfg a = some .rom)
    (hv : Cells.lookup s.mem a.toNat = none) : readWord s a = .error (.undefinedRead a) := by
  unfold readWord
  rcases hk with h | h <;> simp [h, hv]

theorem readWord_of_io {s : State} {a : Addr} (hk : kindAt s.cfg a = some .io) :
    readWord s a = .ok ((ioRead s a).1, s.ioAccess (ioRead s a).2 (.ioRead a (ioRead s a).1)) := by
  simp [readWord, hk]

theorem readWord_of_unmapped {s : State} {a : Addr} (hk : kindAt s.cfg a = none) :
    readWord s a = .error (.unmappedRead a) := by
  simp [readWord, hk]

theorem writeWord_of_io {s : State} {a : Addr} (v : Nibble) (hk : kindAt s.cfg a = some .io) :
    writeWord s a v = .ok (s.ioAccess (ioWrite s a v) (.ioWrite a v)) := by
  simp [writeWord, hk]

theorem writeWord_of_unwritable {s : State} {a : Addr} (v : Nibble)
    (hk : kindAt s.cfg a = none ∨ kindAt s.cfg a = some .rom) : writeWord s a v = .error (.unmappedWrite a) := by
  unfold writeWord
  rcases hk with h | h <;> simp [h]

/-- Where the tables have rows, an I/O word gives back what they say of it in the state its last write has left (R52). -/
theorem readWord_after_ioWrite {s : State} {a : Addr} {v : Nibble} {w r : IoRow} (hk : kindAt s.cfg a = some .io)
    (hw : s.cfg.io.writeRow s.periph a v = some w) (hr : s.cfg.io.readRow w.after a = some r) :
    ∃ t u, writeWord s a v = .ok t ∧ readWord t a = .ok (r.value, u) ∧ u.periph = r.after := by
  have hwrite := writeWord_of_io v hk
  have hread := readWord_of_io (s := s.ioAccess w.after (.ioWrite a v)) hk
  have hrow : ioRead (s.ioAccess w.after (.ioWrite a v)) a = (r.value, r.after) := ioRead_row hr
  rw [ioWrite_row hw] at hwrite
  rw [hrow] at hread
  exact ⟨_, _, hwrite, hread, rfl⟩

/-- Settles O56, each access by the kind of its word. -/
theorem dataAccesses : Obligations.DataAccesses := by
  intro s a
  refine ⟨fun hk => ⟨fun v hv => readWord_of_lookup hk hv, fun hv => readWord_of_unwritten hk hv⟩,
    fun hk => ⟨readWord_of_io hk, fun r hr => ioRead_row hr⟩, readWord_of_unmapped, fun v => ⟨fun hk => ?_, fun hk => ?_,
    writeWord_of_unwritable v⟩⟩
  · exact ⟨_, writeWord_of_ram v hk, rfl, lookup_insert_same _ _ _, fun n hn => lookup_insert_other _ _ hn⟩
  · exact ⟨writeWord_of_io v hk, fun w r hw hr => readWord_after_ioWrite hk hw hr⟩

end Sys2Proof.Machine
end

section
/-! What the operations inside a step keep. `KeepsStore` holds of every step; `Midway` of the operations inside an instruction;
`Completed` of an instruction from its start to its end. -/

namespace Sys2Proof.Machine

/-- `t` has the program, the parameters and every data word that is not RAM as `s` has them, and its data memory is canonical if
that of `s` is (R40, R43, R45). -/
structure KeepsStore (s t : State) : Prop where
  prog : t.prog = s.prog
  cfg : t.cfg = s.cfg
  notRam : ∀ n, kindIn s.cfg.dataMap n ≠ some .ram → Cells.lookup t.mem n = Cells.lookup s.mem n
  canonical : Memory.wf s.mem = true → Memory.wf t.mem = true

/-- `t` is a state inside an instruction that started at `s`: the core still runs, or stands by, as it did (R325, R350). -/
structure Midway (s t : State) : Prop extends KeepsStore s t where
  run : t.run = s.run
  inReset : t.inReset = s.inReset

/-- `t` is the state at the end of an instruction that started at `s`: E = 1 is left only with `defer` set, and standby entered
only with `defer` clear (R24, R33, R327). -/
structure Completed (s t : State) : Prop extends KeepsStore s t where
  inReset : t.inReset = s.inReset
  extended : flagE t.f = true → t.defer = true
  standby : s.run = .run → t.run ≠ .run → t.defer = false

/-! ### Data memory kept -/

theorem KeepsStore.of_mem_eq {s t : State} (hp : t.prog = s.prog) (hc : t.cfg = s.cfg) (hm : t.mem = s.mem) :
    KeepsStore s t :=
  ⟨hp, hc, fun _ _ => by rw [hm], fun h => by rw [hm]; exact h⟩

theorem KeepsStore.trans {s t u : State} (h : KeepsStore s t) (h' : KeepsStore t u) : KeepsStore s u where
  prog := h'.prog.trans h.prog
  cfg := h'.cfg.trans h.cfg
  notRam n hn := (h'.notRam n (by rw [h.cfg]; exact hn)).trans (h.notRam n hn)
  canonical hm := h'.canonical (h.canonical hm)

theorem KeepsStore.takeInput (s : State) : KeepsStore s s.takeInput := .of_mem_eq rfl rfl rfl

theorem KeepsStore.latchNmi (i : BoundaryInput) (s : State) : KeepsStore s (latchNmi i s) := .of_mem_eq rfl rfl rfl

theorem KeepsStore.resetEvent (s : State) : KeepsStore s (resetEvent s) := .of_mem_eq rfl rfl rfl

/-- Data stands only in RAM and ROM after the step if it did before: what is new stands in RAM (R45). -/
theorem KeepsStore.contents {s t : State} (h : KeepsStore s t)
    (hs : ∀ a v, Cells.lookup s.mem a = some v → kindIn s.cfg.dataMap a = some .ram ∨ kindIn s.cfg.dataMap a = some .rom)
    (a : Nat) (v : Nibble) (hv : Cells.lookup t.mem a = some v) :
    kindIn t.cfg.dataMap a = some .ram ∨ kindIn t.cfg.dataMap a = some .rom := by
  rw [h.cfg]
  by_cases hk : kindIn s.cfg.dataMap a = some .ram
  · exact .inl hk
  · rw [h.notRam a hk] at hv
    exact hs a v hv

/-! ### Register and flag updates inside an instruction -/

theorem Midway.of_mem_eq {s t : State} (hp : t.prog = s.prog) (hc : t.cfg = s.cfg) (hm : t.mem = s.mem)
    (hr : t.run = s.run) (hi : t.inReset = s.inReset) : Midway s t :=
  ⟨.of_mem_eq hp hc hm, hr, hi⟩

theorem Midway.refl (s : State) : Midway s s := .of_mem_eq rfl rfl rfl rfl rfl

theorem Midway.trans {s t u : State} (h : Midway s t) (h' : Midway t u) : Midway s u :=
  ⟨h.toKeepsStore.trans h'.toKeepsStore, h'.run.trans h.run, h'.inReset.trans h.inReset⟩

theorem SameCore.midway {s t : State} (h : SameCore s t) (hm : t.mem = s.mem) : Midway s t :=
  .of_mem_eq h.prog h.cfg hm h.run h.inReset

section
variable {s t : State} (h : Midway s t)
include h

theorem Midway.setReg (r : Reg) (v : Nibble) : Midway s (t.setReg r v) :=
  h.trans (.of_mem_eq (by simp) (by simp) (by simp) (by simp) (by simp))

theorem Midway.setIdx (i : Idx) (v : Addr) : Midway s (t.setIdx i v) :=
  h.trans (.of_mem_eq (by simp) (by simp) (by simp) (by simp) (by simp))

theorem Midway.bump (i : Idx) (n : Addr) : Midway s (t.bump i n) := h.setIdx i _

theorem Midway.setBA (v : Byte) : Midway s (t.setBA v) := h.trans (.of_mem_eq rfl rfl rfl rfl rfl)

theorem Midway.setCZ (c z : Bool) : Midway s (t.setCZ c z) := h.trans (.of_mem_eq rfl rfl rfl rfl rfl)

theorem Midway.setZ (z : Bool) : Midway s (t.setZ z) := h.trans (.of_mem_eq rfl rfl rfl rfl rfl)

theorem Midway.emit (e : Event) : Midway s (t.emit e) := h.trans (.of_mem_eq rfl rfl rfl rfl rfl)

theorem Midway.aluReg (op : AluOp) (r : Reg) (y : Nibble) : Midway s (aluReg op r y t) := (h.setReg r _).setCZ _ _

theorem Midway.aluTest (op : AluOp) (x y : Nibble) : Midway s (aluTest op x y t) := h.setCZ _ _

theorem Midway.addIdx (i : Idx) (d : Addr) : Midway s (addIdx i d t) := (h.setIdx i _).setZ _

end

/-! ### Memory accesses inside an instruction -/

theorem readWord_midway {s t : State} {a : Addr} {v : Nibble} (h : readWord s a = .ok (v, t)) : Midway s t := by
  obtain ⟨hcore, hmem⟩ := readWord_sameCore h
  exact hcore.midway hmem

/-- A word of RAM written, and nothing else of what `Midway` speaks of. -/
theorem Midway.of_insert {s t : State} {a : Addr} {v : Nibble} (hk : kindAt s.cfg a = some .ram) (hp : t.prog = s.prog)
    (hc : t.cfg = s.cfg) (hm : t.mem = Cells.insert s.mem a.toNat v) (hr : t.run = s.run) (hi : t.inReset = s.inReset) :
    Midway s t where
  prog := hp
  cfg := hc
  notRam n hn := by
    have hne : n ≠ a.toNat := fun e => hn (e ▸ hk)
    rw [hm, lookup_insert_other _ _ hne]
  canonical hw := hm ▸ memory_insert_wf a v hw
  run := hr
  inReset := hi

theorem writeWord_midway {s t : State} {a : Addr} {v : Nibble} (h : writeWord s a v = .ok t) : Midway s t := by
  rcases writeWord_ok h with ⟨hk, rfl⟩ | ⟨-, rfl⟩
  · exact .of_insert hk rfl rfl rfl rfl rfl
  · exact .of_mem_eq rfl rfl rfl rfl rfl

theorem read2_midway {s t : State} {a : Addr} {v : Byte} (h : read2 a s = .ok (v, t)) : Midway s t := by
  obtain ⟨lo, s1, hi, hlo, hhi, -⟩ := read2_ok.1 h
  exact (readWord_midway hlo).trans (readWord_midway hhi)

theorem write2_midway {s t : State} {a : Addr} {v : Byte} (h : write2 a v s = .ok t) : Midway s t := by
  obtain ⟨s1, hlo, hhi⟩ := write2_ok.1 h
  exact (writeWord_midway hlo).trans (writeWord_midway hhi)

theorem modifyAt_midway {op : AluOp} {a : Addr} {y : Nibble} {s t : State} (h : modifyAt op a y s = .ok t) :
    Midway s t := by
  obtain ⟨x, s1, s2, hr, hw, rfl⟩ := modifyAt_ok.1 h
  exact ((readWord_midway hr).trans (writeWord_midway hw)).setCZ _ _

theorem testAt_midway {op : AluOp} {a : Addr} {y : Nibble} {s t : State} (h : testAt op a y s = .ok t) : Midway s t := by
  obtain ⟨x, s1, hr, rfl⟩ := testAt_ok.1 h
  exact (readWord_midway hr).aluTest _ _ _

theorem exchangeAt_midway {r : Reg} {a : Addr} {s t : State} (h : exchangeAt r a s = .ok t) : Midway s t := by
  obtain ⟨v, s1, s2, hr, hw, rfl⟩ := exchangeAt_ok.1 h
  exact ((readWord_midway hr).trans (writeWord_midway hw)).setReg r v

/-! ### The stacks inside an instruction -/

theorem push4_midway {s t : State} {v : Nibble} (h : push4 v s = .ok t) : Midway s t := by
  obtain ⟨hk, rfl⟩ := push4_ok.1 h
  exact .of_insert hk rfl rfl rfl rfl rfl

theorem pop4_midway {s t : State} {v : Nibble} (h : pop4 s = .ok (v, t)) : Midway s t := by
  obtain ⟨-, -, rfl⟩ := pop4_ok.1 h
  exact .of_mem_eq rfl rfl rfl rfl rfl

theorem setSp1_midway {s t : State} {p : Byte} (h : setSp1 p s = .ok t) : Midway s t := by
  obtain ⟨-, rfl⟩ := setSp1_ok.1 h
  exact .of_mem_eq rfl rfl rfl rfl rfl

theorem pop16_midway {s t : State} {v : Addr} (h : pop16 s = .ok (v, t)) : Midway s t :=
  setSp1_midway (pop16_ok.1 h).2

theorem inRam16_iff {c : Config} {a : Addr} : inRam16 c a = true ↔ c.ram16Lo ≤ a.toNat ∧ a.toNat + 4 ≤ c.ram16Hi := by
  simp [inRam16]

/-- The four words of an entry in the 16-bit range are RAM where the configuration is legal (R6, R42). -/
theorem kindIn_of_inRam16 {c : Config} (hc : c.Legal) {a : Addr} (ha : inRam16 c a = true) {n : Nat} (hlo : a.toNat ≤ n)
    (hhi : n ≤ a.toNat + 3) : kindIn c.dataMap n = some .ram := by
  obtain ⟨hl, hh⟩ := inRam16_iff.1 ha
  exact hc.ram16IsRam n (by omega) (by omega)

theorem push16_midway {s t : State} {v : Addr} (hc : s.cfg.Legal) (h : push16 v s = .ok t) : Midway s t := by
  obtain ⟨hin, rfl⟩ := push16_ok.1 h
  refine ⟨⟨rfl, rfl, fun n hn => lookup_insert16_other _ _ _ _ ?_, fun hw => memory_insert16_wf v ?_ hw⟩, rfl, rfl⟩
  · by_contra hcon
    exact hn (kindIn_of_inRam16 hc hin (by omega) (by omega))
  · have hp := (s.sp1 - 1#8).isLt
    rw [eaSp1_toNat]
    omega

theorem saveContext_midway {s t : State} {ret : Addr} (hc : s.cfg.Legal) (h : saveContext ret s = .ok t) : Midway s t := by
  obtain ⟨s1, h4, h16⟩ := saveContext_ok.1 h
  have hs1 := push4_midway h4
  exact hs1.trans (push16_midway (by rw [hs1.cfg]; exact hc) h16)

/-! ### The ends of an instruction -/

/-- An instruction that clears E and `defer` at its end may have changed the run state on its way: HALT and SLP do (R402, R403). -/
theorem KeepsStore.retireTo {s t : State} (h : KeepsStore s t) (hi : t.inReset = s.inReset) (n : Nat) (p : Addr) :
    Completed s (t.retireTo n p) where
  toKeepsStore := h.trans (.of_mem_eq rfl rfl rfl)
  inReset := hi
  extended he := by simp at he
  standby _ _ := rfl

section
variable {s t : State} (h : Midway s t)
include h

theorem Midway.retireTo (n : Nat) (p : Addr) : Completed s (t.retireTo n p) := h.toKeepsStore.retireTo h.inReset n p

theorem Midway.retire (n : Nat) : Completed s (t.retire n) := h.retireTo n _

theorem Midway.retireF (n : Nat) (p : Addr) (v : Nibble) : Completed s (t.retireF n p v) where
  toKeepsStore := h.toKeepsStore.trans (.of_mem_eq rfl rfl rfl)
  inReset := h.inReset
  extended _ := rfl
  standby hs ht := absurd (h.run.trans hs) ht

theorem Midway.retireSp (n : Nat) (w : StackPtr) : Completed s (t.retireSp n w) where
  toKeepsStore := h.toKeepsStore.trans (.of_mem_eq rfl rfl rfl)
  inReset := h.inReset
  extended _ := rfl
  standby hs ht := absurd (h.run.trans hs) ht

end

end Sys2Proof.Machine
end

section
/-! How each instruction completes: the operand forms, the instructions with a meaning of their own, then `exec`. -/

namespace Sys2Proof.Machine

/-! ### What the instructions with a meaning of their own can answer -/

theorem next_iff {s t : State} : (Host.Outcome.next s : Host.Outcome State Fault Refusal) = .next t ↔ t = s :=
  ⟨fun h => (outcome_next_inj h).symm, fun h => by rw [h]⟩

theorem putLow_next {i : Idx} {v : Byte} {s t : State} : putLow i v s = .next t ↔
    t = (s.setIdx i ((if flagE s.f then s.ext else (s.idx i).extractLsb' 8 8) ++ v)).retire 1 := next_iff

theorem cmpIdx_next {i : Idx} {k : Byte} {s t : State} : cmpIdx i k s = .next t ↔
    t = (s.setCZ (decide ((s.idx i).toNat < (cmpOperand s k).toNat)) (decide (s.idx i = cmpOperand s k))).retire 1 :=
  next_iff

theorem jumpIf_next {taken : Bool} {d : Byte} {s t : State} : jumpIf taken d s = .next t ↔
    t = s.retireTo 1 (if taken then branchTarget s (signOperand s d) else s.pc + 1#16) := next_iff

theorem execExAB_next {s t : State} : execExAB s = .next t ↔
    flagE s.f = false ∧ t = { s with a := s.b, b := s.a }.retire 1 := by
  simp only [execExAB, extInvalid_next, ok_iff]

theorem execAddXBA_next {s t : State} : execAddXBA s = .next t ↔
    flagE s.f = false ∧ t = (addIdx .x (s.ba.setWidth 16) s).retire 1 := by
  simp only [execAddXBA, extInvalid_next, ok_iff]

theorem execAddYBA_next {s t : State} : execAddYBA s = .next t ↔
    flagE s.f = false ∧ t = (addIdx .y (s.ba.setWidth 16) s).retire 1 := by
  simp only [execAddYBA, extInvalid_next, ok_iff]

theorem execAddXSign8_next {d : Byte} {s t : State} : execAddXSign8 d s = .next t ↔
    t = (addIdx .x (signOperand s d) s).retire 1 := next_iff

theorem execAddYSign8_next {d : Byte} {s t : State} : execAddYSign8 d s = .next t ↔
    t = (addIdx .y (signOperand s d) s).retire 1 := next_iff

theorem execPopF_next {s t : State} : execPopF s = .next t ↔
    flagE s.f = false ∧ ∃ v s1, pop4 s = .ok (v, s1) ∧ t = s1.retireF 1 (s1.pc + 1#16) v := by
  simp only [execPopF, extInvalid_next, bind_ok, ok_iff, Prod.exists]

theorem execJrMemAddr6_next {a : BitVec 6} {s t : State} : execJrMemAddr6 a s = .next t ↔
    flagE s.f = false ∧
      ∃ v s1, readWord s (ea00 a) = .ok (v, s1) ∧ t = s1.retireTo 2 (branchTarget s (v.setWidth 16)) := by
  simp only [execJrMemAddr6, extInvalid_next, bind_ok, ok_iff, Prod.exists]

theorem execCalzImm8_next {i : Byte} {s t : State} : execCalzImm8 i s = .next t ↔
    flagE s.f = false ∧ ∃ s1, push16 (s.pc + 1#16) s = .ok s1 ∧ t = s1.retireTo 1 (i.setWidth 16) := by
  simp only [execCalzImm8, extInvalid_next, bind_ok, ok_iff]

theorem execCalrSign8_next {d : Byte} {s t : State} : execCalrSign8 d s = .next t ↔
    ∃ s1, push16 (s.pc + 1#16) s = .ok s1 ∧ t = s1.retireTo 1 (branchTarget s (signOperand s d)) := by
  simp only [execCalrSign8, finish_next, bind_ok, ok_iff]

theorem execCalrMemAddr6_next {a : BitVec 6} {s t : State} : execCalrMemAddr6 a s = .next t ↔
    flagE s.f = false ∧ ∃ s1 v s2, push16 (s.pc + 1#16) s = .ok s1 ∧ readWord s1 (ea00 a) = .ok (v, s2) ∧
      t = s2.retireTo 2 (branchTarget s (v.setWidth 16)) := by
  simp only [execCalrMemAddr6, extInvalid_next, bind_ok, ok_iff, Prod.exists, exists_and_left]

theorem execRet_next {s t : State} : execRet s = .next t ↔
    flagE s.f = false ∧ ∃ ret s1, pop16 s = .ok (ret, s1) ∧ t = s1.retireTo 1 ret := by
  simp only [execRet, extInvalid_next, bind_ok, ok_iff, Prod.exists]

theorem execRets_next {s t : State} : execRets s = .next t ↔
    flagE s.f = false ∧ ∃ ret s1, pop16 s = .ok (ret, s1) ∧ t = s1.retireTo 2 (ret + 1#16) := by
  simp only [execRets, extInvalid_next, bind_ok, ok_iff, Prod.exists]

theorem execRetdImm8_next {i : Byte} {s t : State} : execRetdImm8 i s = .next t ↔
    flagE s.f = false ∧ ∃ ret s1 s2, pop16 s = .ok (ret, s1) ∧ write2 s1.x i s1 = .ok s2 ∧
      t = (s2.bump .x 2#16).retireTo 3 ret := by
  simp only [execRetdImm8, extInvalid_next, bind_ok, ok_iff, Prod.exists, exists_and_left]

theorem execReti_next {s t : State} : execReti s = .next t ↔
    flagE s.f = false ∧ returnFromInterrupt s = .ok t := by
  simp only [execReti, extInvalid_next]

theorem execIntImm6_next {v : BitVec 6} {s t : State} : execIntImm6 v s = .next t ↔
    flagE s.f = false ∧
      ∃ s1, saveContext (s.pc + 1#16) s = .ok s1 ∧ t = s1.retireTo 3 (0x0100#16 + v.setWidth 16) := by
  simp only [execIntImm6, extInvalid_next, bind_ok, ok_iff]

theorem execNop_next {s t : State} : execNop s = .next t ↔ flagE s.f = false ∧ t = s.retire 1 := by
  simp only [execNop, extInvalid_next, ok_iff]

theorem execHalt_next {s t : State} : execHalt s = .next t ↔
    flagE s.f = false ∧ t = { s with run := .halt }.retire 2 := by
  simp only [execHalt, extInvalid_next, ok_iff]

theorem execSlp_next {s t : State} : execSlp s = .next t ↔
    flagE s.f = false ∧ t = ({ s with run := .sleep }.emit .uslp).retire 2 := by
  simp only [execSlp, extInvalid_next, ok_iff]

/-! ### The operand forms complete -/

section
variable {s t : State} {n : Nat} {op : AluOp} {r : Reg} {i j : Idx} {v y : Nibble} {a : Addr}

theorem putReg_completed (h : putReg r v s = .next t) : Completed s t := by
  obtain ⟨-, rfl⟩ := putReg_next.1 h
  exact ((Midway.refl s).setReg r v).retire 1

theorem putF_completed (h : putF v s = .next t) : Completed s t := by
  obtain ⟨-, rfl⟩ := putF_next.1 h
  exact (Midway.refl s).retireF 1 _ v

theorem loadMem_completed (h : loadMem r i s = .next t) : Completed s t := by
  obtain ⟨v, s1, hr, rfl⟩ := loadMem_next.1 h
  exact ((readWord_midway hr).setReg r v).retire 1

theorem loadMemInc_completed (h : loadMemInc r i s = .next t) : Completed s t := by
  obtain ⟨-, v, s1, hr, rfl⟩ := loadMemInc_next.1 h
  exact (((readWord_midway hr).setReg r v).bump i _).retire 1

theorem storeMem_completed (h : storeMem i v s = .next t) : Completed s t := by
  obtain ⟨s1, hw, rfl⟩ := storeMem_next.1 h
  exact (writeWord_midway hw).retire 1

theorem storeMemInc_completed (h : storeMemInc i v s = .next t) : Completed s t := by
  obtain ⟨-, s1, hw, rfl⟩ := storeMemInc_next.1 h
  exact ((writeWord_midway hw).bump i _).retire 1

theorem copyMem_completed {m k : Addr} (h : copyMem i m j k s = .next t) : Completed s t := by
  obtain ⟨-, v, s1, s2, hr, hw, rfl⟩ := copyMem_next.1 h
  exact ((((readWord_midway hr).trans (writeWord_midway hw)).bump i m).bump j k).retire 2

theorem exchangeMem_completed (h : exchangeMem r i s = .next t) : Completed s t := by
  obtain ⟨s1, hx, rfl⟩ := exchangeMem_next.1 h
  exact (exchangeAt_midway hx).retire 2

theorem exchangeMemInc_completed (h : exchangeMemInc r i s = .next t) : Completed s t := by
  obtain ⟨-, s1, hx, rfl⟩ := exchangeMemInc_next.1 h
  exact ((exchangeAt_midway hx).bump i _).retire 2

theorem regForm_completed (h : regForm n op r y s = .next t) : Completed s t := by
  obtain ⟨-, rfl⟩ := regForm_next.1 h
  exact ((Midway.refl s).aluReg op r y).retire n

theorem regMemForm_completed (h : regMemForm n op r i s = .next t) : Completed s t := by
  obtain ⟨y, s1, hr, rfl⟩ := regMemForm_next.1 h
  exact ((readWord_midway hr).aluReg op r y).retire n

theorem regMemIncForm_completed (h : regMemIncForm n op r i s = .next t) : Completed s t := by
  obtain ⟨-, y, s1, hr, rfl⟩ := regMemIncForm_next.1 h
  exact (((readWord_midway hr).aluReg op r y).bump i _).retire n

theorem regTest_completed (h : regTest op r y s = .next t) : Completed s t := by
  obtain ⟨-, rfl⟩ := regTest_next.1 h
  exact ((Midway.refl s).aluTest op _ y).retire 1

theorem regMemTest_completed (h : regMemTest op r i s = .next t) : Completed s t := by
  obtain ⟨y, s1, hr, rfl⟩ := regMemTest_next.1 h
  exact ((readWord_midway hr).aluTest op _ y).retire 1

theorem regMemIncTest_completed (h : regMemIncTest op r i s = .next t) : Completed s t := by
  obtain ⟨-, y, s1, hr, rfl⟩ := regMemIncTest_next.1 h
  exact (((readWord_midway hr).aluTest op _ y).bump i _).retire 1

theorem memForm_completed (h : memForm n op i y s = .next t) : Completed s t := by
  obtain ⟨s1, hm, rfl⟩ := memForm_next.1 h
  exact (modifyAt_midway hm).retire n

theorem memIncForm_completed (h : memIncForm n op i y s = .next t) : Completed s t := by
  obtain ⟨-, s1, hm, rfl⟩ := memIncForm_next.1 h
  exact ((modifyAt_midway hm).bump i _).retire n

theorem memTest_completed (h : memTest op i y s = .next t) : Completed s t := by
  obtain ⟨s1, ht, rfl⟩ := memTest_next.1 h
  exact (testAt_midway ht).retire 1

theorem memIncTest_completed (h : memIncTest op i y s = .next t) : Completed s t := by
  obtain ⟨-, s1, ht, rfl⟩ := memIncTest_next.1 h
  exact ((testAt_midway ht).bump i _).retire 1

theorem absForm_completed (h : absForm op a y s = .next t) : Completed s t := by
  obtain ⟨-, s1, hm, rfl⟩ := absForm_next.1 h
  exact (modifyAt_midway hm).retire 2

theorem absTest_completed (h : absTest op a y s = .next t) : Completed s t := by
  obtain ⟨-, s1, ht, rfl⟩ := absTest_next.1 h
  exact (testAt_midway ht).retire 1

end

section
variable {s t : State} {r : Reg} {i : Idx} {v : Nibble} {b : Byte} {a : BitVec 6}

theorem putBA_completed (h : putBA b s = .next t) : Completed s t := by
  obtain ⟨-, rfl⟩ := putBA_next.1 h
  exact ((Midway.refl s).setBA b).retire 1

theorem loadBA_completed (h : loadBA i s = .next t) : Completed s t := by
  obtain ⟨-, b, s1, hr, rfl⟩ := loadBA_next.1 h
  exact (((read2_midway hr).setBA b).bump i _).retire 2

theorem store2_completed (h : store2 i b s = .next t) : Completed s t := by
  obtain ⟨-, s1, hw, rfl⟩ := store2_next.1 h
  exact ((write2_midway hw).bump i _).retire 2

theorem putExt_completed (h : putExt b s = .next t) : Completed s t := by
  obtain ⟨-, rfl⟩ := putExt_next.1 h
  have hm : Midway s { s with ext := b } := .of_mem_eq rfl rfl rfl rfl rfl
  exact hm.retireF 1 _ _

theorem putLow_completed (h : putLow i b s = .next t) : Completed s t := by
  obtain rfl := putLow_next.1 h
  exact ((Midway.refl s).setIdx i _).retire 1

theorem putLowBA_completed (h : putLowBA i s = .next t) : Completed s t := by
  obtain ⟨-, rfl⟩ := putLowBA_next.1 h
  exact ((Midway.refl s).setIdx i _).retire 1

theorem putHighBA_completed (h : putHighBA i s = .next t) : Completed s t := by
  obtain ⟨-, rfl⟩ := putHighBA_next.1 h
  exact ((Midway.refl s).setIdx i _).retire 1

theorem cmpIdx_completed (h : cmpIdx i b s = .next t) : Completed s t := by
  obtain rfl := cmpIdx_next.1 h
  exact ((Midway.refl s).setCZ _ _).retire 1

theorem putSp1BA_completed (h : putSp1BA s = .next t) : Completed s t := by
  obtain ⟨-, s1, hsp, rfl⟩ := putSp1BA_next.1 h
  exact (setSp1_midway hsp).retireSp 1 .sp1

theorem putSp2BA_completed (h : putSp2BA s = .next t) : Completed s t := by
  obtain ⟨-, rfl⟩ := putSp2BA_next.1 h
  have hm : Midway s { s with sp2 := s.ba } := .of_mem_eq rfl rfl rfl rfl rfl
  exact hm.retireSp 1 .sp2

theorem stepSp1_completed (h : stepSp1 b s = .next t) : Completed s t := by
  obtain ⟨-, s1, hsp, rfl⟩ := stepSp1_next.1 h
  exact ((setSp1_midway hsp).setZ _).retire 1

theorem stepSp2_completed (h : stepSp2 b s = .next t) : Completed s t := by
  obtain ⟨-, rfl⟩ := stepSp2_next.1 h
  have hm : Midway s { s with sp2 := b } := .of_mem_eq rfl rfl rfl rfl rfl
  exact (hm.setZ _).retire 1

theorem pushNibble_completed (h : pushNibble v s = .next t) : Completed s t := by
  obtain ⟨-, s1, hp, rfl⟩ := pushNibble_next.1 h
  exact (push4_midway hp).retire 1

theorem popReg_completed (h : popReg r s = .next t) : Completed s t := by
  obtain ⟨-, v, s1, hp, rfl⟩ := popReg_next.1 h
  exact ((pop4_midway hp).setReg r v).retire 1

theorem pushIdx_completed (hc : s.cfg.Legal) (h : pushIdx i s = .next t) : Completed s t := by
  obtain ⟨-, s1, hp, rfl⟩ := pushIdx_next.1 h
  exact (push16_midway hc hp).retire 1

theorem popIdx_completed (h : popIdx i s = .next t) : Completed s t := by
  obtain ⟨-, v, s1, hp, rfl⟩ := popIdx_next.1 h
  exact ((pop16_midway hp).setIdx i v).retire 1

theorem jumpIf_completed {taken : Bool} (h : jumpIf taken b s = .next t) : Completed s t := by
  obtain rfl := jumpIf_next.1 h
  exact (Midway.refl s).retireTo 1 _

theorem jumpTo_completed {p : Addr} (h : jumpTo p s = .next t) : Completed s t := by
  obtain ⟨-, rfl⟩ := jumpTo_next.1 h
  exact (Midway.refl s).retireTo 1 _

/-! ### The instructions with a meaning of their own complete -/

theorem execExAB_completed (h : execExAB s = .next t) : Completed s t := by
  obtain ⟨-, rfl⟩ := execExAB_next.1 h
  have hm : Midway s { s with a := s.b, b := s.a } := .of_mem_eq rfl rfl rfl rfl rfl
  exact hm.retire 1

theorem execAddXBA_completed (h : execAddXBA s = .next t) : Completed s t := by
  obtain ⟨-, rfl⟩ := execAddXBA_next.1 h
  exact ((Midway.refl s).addIdx .x _).retire 1

theorem execAddYBA_completed (h : execAddYBA s = .next t) : Completed s t := by
  obtain ⟨-, rfl⟩ := execAddYBA_next.1 h
  exact ((Midway.refl s).addIdx .y _).retire 1

theorem execAddXSign8_completed (h : execAddXSign8 b s = .next t) : Completed s t := by
  obtain rfl := execAddXSign8_next.1 h
  exact ((Midway.refl s).addIdx .x _).retire 1

theorem execAddYSign8_completed (h : execAddYSign8 b s = .next t) : Completed s t := by
  obtain rfl := execAddYSign8_next.1 h
  exact ((Midway.refl s).addIdx .y _).retire 1

theorem execPopF_completed (h : execPopF s = .next t) : Completed s t := by
  obtain ⟨-, v, s1, hp, rfl⟩ := execPopF_next.1 h
  exact (pop4_midway hp).retireF 1 _ v

theorem execJrMemAddr6_completed (h : execJrMemAddr6 a s = .next t) : Completed s t := by
  obtain ⟨-, v, s1, hr, rfl⟩ := execJrMemAddr6_next.1 h
  exact (readWord_midway hr).retireTo 2 _

theorem execCalzImm8_completed (hc : s.cfg.Legal) (h : execCalzImm8 b s = .next t) : Completed s t := by
  obtain ⟨-, s1, hp, rfl⟩ := execCalzImm8_next.1 h
  exact (push16_midway hc hp).retireTo 1 _

theorem execCalrSign8_completed (hc : s.cfg.Legal) (h : execCalrSign8 b s = .next t) : Completed s t := by
  obtain ⟨s1, hp, rfl⟩ := execCalrSign8_next.1 h
  exact (push16_midway hc hp).retireTo 1 _

theorem execCalrMemAddr6_completed (hc : s.cfg.Legal) (h : execCalrMemAddr6 a s = .next t) : Completed s t := by
  obtain ⟨-, s1, v, s2, hp, hr, rfl⟩ := execCalrMemAddr6_next.1 h
  exact ((push16_midway hc hp).trans (readWord_midway hr)).retireTo 2 _

theorem execRet_completed (h : execRet s = .next t) : Completed s t := by
  obtain ⟨-, ret, s1, hp, rfl⟩ := execRet_next.1 h
  exact (pop16_midway hp).retireTo 1 ret

theorem execRets_completed (h : execRets s = .next t) : Completed s t := by
  obtain ⟨-, ret, s1, hp, rfl⟩ := execRets_next.1 h
  exact (pop16_midway hp).retireTo 2 _

theorem execRetdImm8_completed (h : execRetdImm8 b s = .next t) : Completed s t := by
  obtain ⟨-, ret, s1, s2, hp, hw, rfl⟩ := execRetdImm8_next.1 h
  exact (((pop16_midway hp).trans (write2_midway hw)).bump .x _).retireTo 3 ret

theorem execReti_completed (h : execReti s = .next t) : Completed s t := by
  obtain ⟨-, hret⟩ := execReti_next.1 h
  obtain ⟨ret, s1, v, s2, hp, hf, rfl⟩ := returnFromInterrupt_ok.1 hret
  exact ((pop16_midway hp).trans (pop4_midway hf)).retireF 2 ret v

theorem execIntImm6_completed (hc : s.cfg.Legal) (h : execIntImm6 a s = .next t) : Completed s t := by
  obtain ⟨-, s1, hs, rfl⟩ := execIntImm6_next.1 h
  exact (saveContext_midway hc hs).retireTo 3 _

theorem execNop_completed (h : execNop s = .next t) : Completed s t := by
  obtain ⟨-, rfl⟩ := execNop_next.1 h
  exact (Midway.refl s).retire 1

theorem execHalt_completed (h : execHalt s = .next t) : Completed s t := by
  obtain ⟨-, rfl⟩ := execHalt_next.1 h
  have hk : KeepsStore s { s with run := .halt } := .of_mem_eq rfl rfl rfl
  exact hk.retireTo rfl 2 _

theorem execSlp_completed (h : execSlp s = .next t) : Completed s t := by
  obtain ⟨-, rfl⟩ := execSlp_next.1 h
  have hk : KeepsStore s ({ s with run := .sleep }.emit .uslp) := .of_mem_eq rfl rfl rfl
  exact hk.retireTo rfl 2 _

end

/-! ### Every instruction completes -/

/-- The instructions by the operation that gives them their meaning; only the 16-bit pushes need the 16-bit range to be RAM. -/
theorem exec_completed {i : Instr} {s t : State} (hc : s.cfg.Legal) (h : exec i s = .next t) : Completed s t := by
  cases i with
  | ldAImm4 | ldBImm4 | ldAA | ldAB | ldAF | ldBA | ldBB => exact putReg_completed h
  | ldFImm4 | andFImm4 | orFImm4 | xorFImm4 | ldFA => exact putF_completed h
  | ldMemXImm4 | ldMemYImm4 | ldMemXA | ldMemXB | ldMemYA | ldMemYB => exact storeMem_completed h
  | ldMemXIncImm4 | ldMemYIncImm4 | ldMemXIncA | ldMemXIncB | ldMemYIncA
  | ldMemYIncB => exact storeMemInc_completed h
  | addAImm4 | addBImm4 | adcAImm4 | adcBImm4 | subAImm4 | subBImm4 | sbcAImm4 | sbcBImm4 | adcBAN4 | sbcBAN4
  | andAImm4 | andBImm4 | orAImm4 | orBImm4 | xorAImm4 | xorBImm4 | addAA | addAB | addBA | addBB | adcAA | adcAB
  | adcBA | adcBB | subAA | subAB | subBA | subBB | sbcAA | sbcAB | sbcBA | sbcBB | andAA | andAB | andBA | andBB
  | orAA | orAB | orBA | orBB | xorAA | xorAB | xorBA | xorBB | sllA | sllB | srlA | srlB | rlA | rlB | rrA
  | rrB => exact regForm_completed h
  | addMemXImm4 | addMemYImm4 | adcMemXImm4 | adcMemYImm4 | subMemXImm4 | subMemYImm4 | sbcMemXImm4 | sbcMemYImm4
  | adcMemXBN4 | adcMemYBN4 | adcMemXZeroN4 | adcMemYZeroN4 | sbcMemXBN4 | sbcMemYBN4 | sbcMemXZeroN4 | sbcMemYZeroN4
  | incMemXN4 | incMemYN4 | decMemXN4 | decMemYN4 | andMemXImm4 | andMemYImm4 | orMemXImm4 | orMemYImm4 | xorMemXImm4
  | xorMemYImm4 | addMemXA | addMemXB | addMemYA | addMemYB | adcMemXA | adcMemXB | adcMemYA | adcMemYB | subMemXA
  | subMemXB | subMemYA | subMemYB | sbcMemXA | sbcMemXB | sbcMemYA | sbcMemYB | andMemXA | andMemXB | andMemYA
  | andMemYB | orMemXA | orMemXB | orMemYA | orMemYB | xorMemXA | xorMemXB | xorMemYA | xorMemYB | sllMemX | sllMemY
  | srlMemX | srlMemY | rlMemX | rlMemY | rrMemX | rrMemY => exact memForm_completed h
  | addMemXIncImm4 | addMemYIncImm4 | adcMemXIncImm4 | adcMemYIncImm4 | subMemXIncImm4 | subMemYIncImm4
  | sbcMemXIncImm4 | sbcMemYIncImm4 | adcMemXIncBN4 | adcMemYIncBN4 | adcMemXIncZeroN4 | adcMemYIncZeroN4
  | sbcMemXIncBN4 | sbcMemYIncBN4 | sbcMemXIncZeroN4 | sbcMemYIncZeroN4 | incMemXIncN4 | incMemYIncN4 | decMemXIncN4
  | decMemYIncN4 | andMemXIncImm4 | andMemYIncImm4 | orMemXIncImm4 | orMemYIncImm4 | xorMemXIncImm4 | xorMemYIncImm4
  | addMemXIncA | addMemXIncB | addMemYIncA | addMemYIncB | adcMemXIncA | adcMemXIncB | adcMemYIncA | adcMemYIncB
  | subMemXIncA | subMemXIncB | subMemYIncA | subMemYIncB | sbcMemXIncA | sbcMemXIncB | sbcMemYIncA | sbcMemYIncB
  | andMemXIncA | andMemXIncB | andMemYIncA | andMemYIncB | orMemXIncA | orMemXIncB | orMemYIncA | orMemYIncB
  | xorMemXIncA | xorMemXIncB | xorMemYIncA | xorMemYIncB | sllMemXInc | sllMemYInc | srlMemXInc | srlMemYInc
  | rlMemXInc | rlMemYInc | rrMemXInc | rrMemYInc => exact memIncForm_completed h
  | cmpAImm4 | cmpBImm4 | bitAImm4 | bitBImm4 | cmpAA | cmpAB | cmpBA | cmpBB | bitAA | bitAB | bitBA
  | bitBB => exact regTest_completed h
  | cmpMemXImm4 | cmpMemYImm4 | bitMemXImm4 | bitMemYImm4 | cmpMemXA | cmpMemXB | cmpMemYA | cmpMemYB | bitMemXA
  | bitMemXB | bitMemYA | bitMemYB => exact memTest_completed h
  | cmpMemXIncImm4 | cmpMemYIncImm4 | bitMemXIncImm4 | bitMemYIncImm4 | cmpMemXIncA | cmpMemXIncB | cmpMemYIncA
  | cmpMemYIncB | bitMemXIncA | bitMemXIncB | bitMemYIncA | bitMemYIncB => exact memIncTest_completed h
  | incMemAddr6 | decMemAddr6 | clrMem00Addr6Imm2 | clrMemFFAddr6Imm2 | setMem00Addr6Imm2
  | setMemFFAddr6Imm2 => exact absForm_completed h
  | adcBMemXN4 | adcBMemYN4 | sbcBMemXN4 | sbcBMemYN4 | addAMemX | addAMemY | addBMemX | addBMemY | adcAMemX
  | adcAMemY | adcBMemX | adcBMemY | subAMemX | subAMemY | subBMemX | subBMemY | sbcAMemX | sbcAMemY | sbcBMemX
  | sbcBMemY | andAMemX | andAMemY | andBMemX | andBMemY | orAMemX | orAMemY | orBMemX | orBMemY | xorAMemX
  | xorAMemY | xorBMemX | xorBMemY => exact regMemForm_completed h
  | adcBMemXIncN4 | adcBMemYIncN4 | sbcBMemXIncN4 | sbcBMemYIncN4 | addAMemXInc | addAMemYInc | addBMemXInc
  | addBMemYInc | adcAMemXInc | adcAMemYInc | adcBMemXInc | adcBMemYInc | subAMemXInc | subAMemYInc | subBMemXInc
  | subBMemYInc | sbcAMemXInc | sbcAMemYInc | sbcBMemXInc | sbcBMemYInc | andAMemXInc | andAMemYInc | andBMemXInc
  | andBMemYInc | orAMemXInc | orAMemYInc | orBMemXInc | orBMemYInc | xorAMemXInc | xorAMemYInc | xorBMemXInc
  | xorBMemYInc => exact regMemIncForm_completed h
  | tstMem00Addr6Imm2 | tstMemFFAddr6Imm2 => exact absTest_completed h
  | ldbBAImm8 | ldbBAEXT | ldbBAXL | ldbBAXH | ldbBAYL | ldbBAYH | ldbBASP1 | ldbBASP2 => exact putBA_completed h
  | ldbMemXIncImm8 | ldbMemXIncBA | ldbMemYIncBA => exact store2_completed h
  | ldbEXTImm8 | ldbEXTBA => exact putExt_completed h
  | ldbXLImm8 | ldbYLImm8 => exact putLow_completed h
  | addXSign8 => exact execAddXSign8_completed h
  | addYSign8 => exact execAddYSign8_completed h
  | cmpXImm8 | cmpYImm8 => exact cmpIdx_completed h
  | jrSign8 | jrcSign8 | jrncSign8 | jrzSign8 | jrnzSign8 => exact jumpIf_completed h
  | jrMemAddr6 => exact execJrMemAddr6_completed h
  | calzImm8 => exact execCalzImm8_completed hc h
  | calrSign8 => exact execCalrSign8_completed hc h
  | calrMemAddr6 => exact execCalrMemAddr6_completed hc h
  | retdImm8 => exact execRetdImm8_completed h
  | intImm6 => exact execIntImm6_completed hc h
  | ldAMemX | ldAMemY | ldBMemX | ldBMemY => exact loadMem_completed h
  | ldAMemXInc | ldAMemYInc | ldBMemXInc | ldBMemYInc => exact loadMemInc_completed h
  | exAB => exact execExAB_completed h
  | exAMemX | exAMemY | exBMemX | exBMemY => exact exchangeMem_completed h
  | exAMemXInc | exAMemYInc | exBMemXInc | exBMemYInc => exact exchangeMemInc_completed h
  | ldMemXMemY | ldMemYMemX | ldMemXMemYInc | ldMemYMemXInc | ldMemXIncMemY | ldMemYIncMemX | ldMemXIncMemYInc
  | ldMemYIncMemXInc => exact copyMem_completed h
  | cmpAMemX | cmpAMemY | cmpBMemX | cmpBMemY | bitAMemX | bitAMemY | bitBMemX
  | bitBMemY => exact regMemTest_completed h
  | cmpAMemXInc | cmpAMemYInc | cmpBMemXInc | cmpBMemYInc | bitAMemXInc | bitAMemYInc | bitBMemXInc
  | bitBMemYInc => exact regMemIncTest_completed h
  | ldbBAMemXInc | ldbBAMemYInc => exact loadBA_completed h
  | ldbXLBA | ldbYLBA => exact putLowBA_completed h
  | ldbXHBA | ldbYHBA => exact putHighBA_completed h
  | ldbSP1BA => exact putSp1BA_completed h
  | ldbSP2BA => exact putSp2BA_completed h
  | addXBA => exact execAddXBA_completed h
  | addYBA => exact execAddYBA_completed h
  | incSP1 | decSP1 => exact stepSp1_completed h
  | incSP2 | decSP2 => exact stepSp2_completed h
  | pushA | pushB | pushF => exact pushNibble_completed h
  | popA | popB => exact popReg_completed h
  | popF => exact execPopF_completed h
  | pushX | pushY => exact pushIdx_completed hc h
  | popX | popY => exact popIdx_completed h
  | jrA | jrBA | jpY => exact jumpTo_completed h
  | ret => exact execRet_completed h
  | rets => exact execRets_completed h
  | reti => exact execReti_completed h
  | nop => exact execNop_completed h
  | halt => exact execHalt_completed h
  | slp => exact execSlp_completed h

end Sys2Proof.Machine
end

section
/-! O18: what a step can do, and that the machine invariant survives each of it. -/

namespace Sys2Proof.Machine

/-- An instruction runs only after its word was fetched and decoded (R93). -/
theorem runInstruction_next {s t : State} (h : runInstruction s = .next t) :
    ∃ w i, fetch s = .ok w ∧ decode w = some i ∧ exec i s = .next t := by
  unfold runInstruction at h
  split at h
  · cases h
  · rename_i w hf
    split at h
    · cases h
    · rename_i i hd
      exact ⟨w, i, hf, hd, h⟩

/-- Every step that goes on is a boundary with what the environment offers, nothing being the quiet input (R330, R357 b). -/
theorem boundary_next {run : State → Host.Outcome State Fault Refusal} {s t : State} (h : boundary run s = .next t) :
    atBoundary (offered s) run s.takeInput = .next t := by
  cases hi : s.inputs with
  | cons i rest => simpa [offered, hi, boundary_cons hi] using h
  | nil =>
    by_cases hr : s.run = .run ∨ accepted none s ≠ none
    · simpa [offered, hi, boundary_nil hi hr] using h
    · push Not at hr
      rw [boundary_quiescent hi hr.1 hr.2] at h
      cases h

/-- The state in which a boundary accepts an interrupt or goes on: the input taken, the NMI latched (R303, R307). -/
def State.latched (s : State) : State := latchNmi (offered s) s.takeInput

/-- All a step can do: a reset, an interrupt entry, a moment of standby, or one instruction (R93, R307). -/
theorem step_next {s t : State} (h : step s = .next t) :
    ((offered s).reset = true ∧ t = resetEvent s.takeInput) ∨
    ((offered s).reset = false ∧
      (accepted (irqLine (offered s) s.takeInput) s.latched = some (.ok t) ∨
       accepted (irqLine (offered s) s.takeInput) s.latched = none ∧
        (s.run ≠ .run ∧ t = s.latched ∨
         s.run = .run ∧ ∃ w i, fetch s.latched = .ok w ∧ decode w = some i ∧ exec i s.latched = .next t))) := by
  obtain ⟨-, ⟨hr, ht⟩ | ⟨hr, hacc⟩ | ⟨hr, hacc, hrun, ht⟩ | ⟨hr, hacc, hrun, hx⟩⟩ := atBoundary_next (boundary_next h)
  · exact .inl ⟨hr, ht⟩
  · exact .inr ⟨hr, .inl hacc⟩
  · exact .inr ⟨hr, .inr ⟨hacc, .inl ⟨hrun, ht⟩⟩⟩
  · exact .inr ⟨hr, .inr ⟨hacc, .inr ⟨hrun, runInstruction_next hx⟩⟩⟩

/-! ### Interrupt entry -/

/-- `t` is the state an interrupt entry at `s` leaves: the core runs, E is 0 (R308, R310, R327). -/
structure Entered (s t : State) : Prop extends KeepsStore s t where
  inReset : t.inReset = s.inReset
  run : t.run = .run
  flagE : flagE t.f = false

theorem enterInterrupt_entered {s t : State} {v : Nibble} (hc : s.cfg.Legal) (h : enterInterrupt v s = .ok t) :
    Entered s t := by
  obtain ⟨s1, hs, rfl⟩ := enterInterrupt_ok.1 h
  have hm := saveContext_midway hc hs
  exact ⟨hm.toKeepsStore.trans (.of_mem_eq rfl rfl rfl), hm.inReset, rfl, by simp⟩

/-- The latch and the acknowledge events come before the entry and are no part of what it keeps (R308, R331). -/
theorem Entered.after_midway {s s1 t : State} (hm : Midway s s1) (h : Entered s1 t) : Entered s t :=
  ⟨hm.toKeepsStore.trans h.toKeepsStore, h.inReset.trans hm.inReset, h.run, h.flagE⟩

theorem accepted_entered {irq : Option Nibble} {s t : State} (hc : s.cfg.Legal) (h : accepted irq s = some (.ok t)) :
    Entered s t := by
  obtain ⟨-, ⟨-, hn⟩ | ⟨-, -, v, -, hq⟩⟩ := accepted_some h
  · have hm : Midway s { s with nmiPending := false } := .of_mem_eq rfl rfl rfl rfl rfl
    exact .after_midway (hm.emit .nmiAck) (enterInterrupt_entered hc hn.symm)
  · have hm : Midway s (s.emit .irqAck) := (Midway.refl s).emit .irqAck
    exact .after_midway (hm.emit (.vectorRead v)) (enterInterrupt_entered hc hq.symm)

/-! ### The store, kept by every step -/

theorem KeepsStore.latched (s : State) : KeepsStore s s.latched := (KeepsStore.takeInput s).trans (.latchNmi _ _)

/-- A step changes neither program memory nor the parameters, and of data memory only RAM (R40, R43, R45). -/
theorem step_keepsStore {s t : State} (hc : s.cfg.Legal) (h : step s = .next t) : KeepsStore s t := by
  have hl := KeepsStore.latched s
  have hcl : s.latched.cfg.Legal := hl.cfg ▸ hc
  obtain ⟨-, rfl⟩ | ⟨-, hacc | ⟨-, ⟨-, rfl⟩ | ⟨-, w, i, -, -, hx⟩⟩⟩ := step_next h
  · exact (KeepsStore.takeInput s).trans (.resetEvent _)
  · exact hl.trans (accepted_entered hcl hacc).toKeepsStore
  · exact hl
  · exact hl.trans (exec_completed hcl hx).toKeepsStore

/-! ### The invariant -/

/-- The invariant after a step with SR high, from what the step leaves of E, `defer` and the run state. -/
theorem State.Inv.of_notInReset {s t : State} (hs : s.Inv) (hk : KeepsStore s t) (hr : t.inReset = false)
    (he : flagE t.f = true → t.defer = true) (hst : t.run ≠ .run → t.defer = false) : t.Inv where
  memory := hk.canonical hs.memory
  program := hk.prog ▸ hs.program
  config := hk.cfg ▸ hs.config
  contents := hk.contents hs.contents
  extended := he
  standby := hst
  reset h := by simp [hr] at h

theorem resetEvent_inv {s : State} (hs : s.Inv) : (resetEvent s).Inv where
  memory := hs.memory
  program := hs.program
  config := hs.config
  contents := hs.contents
  extended he := by simp [resetEvent, State.reset, Machine.flagE] at he
  standby h := absurd rfl h
  reset _ := ⟨rfl, rfl, rfl, rfl, rfl⟩

theorem State.Inv.takeInput {s : State} (hs : s.Inv) : s.takeInput.Inv :=
  hs.of_notInReset (.takeInput s) rfl hs.extended hs.standby

/-- What a boundary makes of its input keeps the invariant, also where it is all that standby does. -/
theorem State.Inv.latched {s : State} (hs : s.Inv) : s.latched.Inv :=
  hs.of_notInReset (.latched s) rfl hs.extended hs.standby

theorem Entered.inv {s t : State} (h : Entered s t) (hs : s.Inv) (hr : s.inReset = false) : t.Inv :=
  hs.of_notInReset h.toKeepsStore (h.inReset.trans hr) (fun he => by simp [h.flagE] at he) (fun hn => absurd h.run hn)

theorem Completed.inv {s t : State} (h : Completed s t) (hs : s.Inv) (hr : s.inReset = false) (hrun : s.run = .run) :
    t.Inv :=
  hs.of_notInReset h.toKeepsStore (h.inReset.trans hr) h.extended (h.standby hrun)

/-- Settles O18, by what a step can do. -/
theorem stepKeepsInvariant : Obligations.StepKeepsInvariant := by
  intro s t hs h
  have hl : s.latched.Inv := hs.latched
  obtain ⟨-, rfl⟩ | ⟨-, hacc | ⟨-, ⟨-, rfl⟩ | ⟨hrun, w, i, -, -, hx⟩⟩⟩ := step_next h
  · exact resetEvent_inv hs.takeInput
  · exact (accepted_entered hl.config hacc).inv hl rfl
  · exact hl
  · exact (exec_completed hl.config hx).inv hl rfl hrun

end Sys2Proof.Machine
end

section
/-! What every instruction changes and keeps, by the tables: `Row` is what the tables say of one instruction, `Within` holds
of the states inside an instruction that keep to a row, `Follows` of an instruction from its start to its end. -/

namespace Sys2Proof.Machine

/-- What the tables say of an instruction: what it writes, how it ends, its cycles. -/
structure Row where
  regs : List RegName := []
  stores : List Addr := []
  c : Bool := false
  z : Bool := false
  jumps : Bool := false
  newF : Bool := false
  setsE : Bool := false
  pointer : Option StackPtr := none
  cycles : Nat := 1

/-- The instruction ends with E = 0 and `defer` = 0 (R24, R33). -/
structure Row.Plain (e : Row) : Prop where
  newF : e.newF = false
  setsE : e.setsE = false
  pointer : e.pointer = none

/-- The instruction's lines of the tables. -/
def tableRow (i : Instr) (s : State) : Row where
  regs := writtenRegs i
  stores := storedAddresses i s
  c := writesC i
  z := writesZ i
  jumps := transfersControl i
  newF := replacesF i
  setsE := Machine.setsE i
  pointer := setsPointer i
  cycles := busCycles i

/-- `t` is a state inside an instruction that started at `s` and has changed nothing but what the row `e` names. -/
structure Within (e : Row) (s t : State) : Prop where
  regs : ∀ r, r ∉ e.regs → r.same s t
  mem : ∀ n, (∀ a ∈ e.stores, a.toNat ≠ n) → wordAt t n = wordAt s n
  keptI : flagI t.f = flagI s.f
  keptC : e.c = false → flagC t.f = flagC s.f
  keptZ : e.z = false → flagZ t.f = flagZ s.f
  pc : t.pc = s.pc
  pairMask : t.pairMask = s.pairMask
  inReset : t.inReset = s.inReset
  cycles : t.cycles = s.cycles

/-- `t` is the state at the end of an instruction that started at `s` and is described by the row `e` (R17, R20 to R24,
R32, R33). -/
structure Follows (e : Row) (s t : State) : Prop where
  regs : ∀ r, r ∉ e.regs → r.same s t
  mem : ∀ n, (∀ a ∈ e.stores, a.toNat ≠ n) → wordAt t n = wordAt s n
  leftE : e.newF = false → flagE t.f = e.setsE
  keptI : e.newF = false → flagI t.f = flagI s.f
  keptC : e.c = false → flagC t.f = flagC s.f
  keptZ : e.z = false → flagZ t.f = flagZ s.f
  pc : e.jumps = false → t.pc = s.pc + 1#16
  defer : t.defer = (e.newF || e.setsE || e.pointer.isSome)
  pairMask : t.pairMask = e.pointer.elim s.pairMask (pairMaskAfter s.pairMask)
  inReset : t.inReset = s.inReset
  cycles : t.cycles = s.cycles + e.cycles

/-! ### The names of the registers -/

/-- A data register as a register a frame speaks of. -/
def Reg.name (r : Reg) : RegName :=
  match r with
  | .a => .a
  | .b => .b

/-- An index register as a register a frame speaks of. -/
def Idx.name (i : Idx) : RegName :=
  match i with
  | .x => .x
  | .y => .y

@[simp] theorem Reg.name_a : Reg.a.name = .a := rfl
@[simp] theorem Reg.name_b : Reg.b.name = .b := rfl
@[simp] theorem Idx.name_x : Idx.x.name = .x := rfl
@[simp] theorem Idx.name_y : Idx.y.name = .y := rfl

theorem RegName.same_refl (r : RegName) (s : State) : r.same s s := by cases r <;> rfl

theorem RegName.same_trans {r : RegName} {s t u : State} (h : r.same s t) (h' : r.same t u) : r.same s u := by
  cases r <;> exact Eq.trans h' h

theorem setReg_same {r : Reg} {n : RegName} (s : State) (v : Nibble) (h : n ≠ r.name) : n.same s (s.setReg r v) := by
  cases r with
  | a =>
    cases n with
    | a => exact absurd rfl h
    | _ => rfl
  | b =>
    cases n with
    | b => exact absurd rfl h
    | _ => rfl

theorem setIdx_same {i : Idx} {n : RegName} (s : State) (v : Addr) (h : n ≠ i.name) : n.same s (s.setIdx i v) := by
  cases i with
  | x =>
    cases n with
    | x => exact absurd rfl h
    | _ => rfl
  | y =>
    cases n with
    | y => exact absurd rfl h
    | _ => rfl

/-! ### Inside an instruction -/

section
variable {e : Row} {s t u : State}

theorem Within.trans (h : Within e s t) (h' : Within e t u) : Within e s u where
  regs r hr := RegName.same_trans (h.regs r hr) (h'.regs r hr)
  mem n hn := (h'.mem n hn).trans (h.mem n hn)
  keptI := h'.keptI.trans h.keptI
  keptC hc := (h'.keptC hc).trans (h.keptC hc)
  keptZ hz := (h'.keptZ hz).trans (h.keptZ hz)
  pc := h'.pc.trans h.pc
  pairMask := h'.pairMask.trans h.pairMask
  inReset := h'.inReset.trans h.inReset
  cycles := h'.cycles.trans h.cycles

/-- A change of registers and of memory alone. -/
theorem Within.of_parts (hr : ∀ r, r ∉ e.regs → r.same s t)
    (hm : ∀ n, (∀ a ∈ e.stores, a.toNat ≠ n) → wordAt t n = wordAt s n) (hf : t.f = s.f) (hpc : t.pc = s.pc)
    (hp : t.pairMask = s.pairMask) (hi : t.inReset = s.inReset) (hcyc : t.cycles = s.cycles) : Within e s t :=
  ⟨hr, hm, by rw [hf], fun _ => by rw [hf], fun _ => by rw [hf], hpc, hp, hi, hcyc⟩

/-- A change of registers alone. -/
theorem Within.of_registers (hr : ∀ r, r ∉ e.regs → r.same s t) (hm : t.mem = s.mem) (hf : t.f = s.f)
    (hpc : t.pc = s.pc) (hp : t.pairMask = s.pairMask) (hi : t.inReset = s.inReset) (hcyc : t.cycles = s.cycles) :
    Within e s t :=
  .of_parts hr (fun n _ => by rw [wordAt, wordAt, hm]) hf hpc hp hi hcyc

theorem Within.refl (e : Row) (s : State) : Within e s s :=
  .of_registers (fun r _ => r.same_refl s) rfl rfl rfl rfl rfl rfl

theorem SameCore.same (h : SameCore s t) (r : RegName) : r.same s t := by
  cases r with
  | a => exact h.a
  | b => exact h.b
  | x => exact h.x
  | y => exact h.y
  | ext => exact h.ext
  | sp1 => exact h.sp1
  | sp2 => exact h.sp2
  | q => exact h.q

/-- A data access keeps to the row if the words it changes are among the row's. -/
theorem SameCore.within (h : SameCore s t) (hm : ∀ n, (∀ a ∈ e.stores, a.toNat ≠ n) → wordAt t n = wordAt s n) :
    Within e s t :=
  .of_parts (fun r _ => h.same r) hm h.f h.pc h.pairMask h.inReset h.cycles

section
variable (h : Within e s t)
include h

theorem Within.setReg {r : Reg} (v : Nibble) (hr : r.name ∈ e.regs) : Within e s (t.setReg r v) :=
  h.trans (.of_registers (fun _ hq => setReg_same t v fun hqr => hq (hqr ▸ hr)) (by simp) (by simp) (by simp)
    (by simp) (by simp) (by simp))

theorem Within.setIdx {i : Idx} (v : Addr) (hi : i.name ∈ e.regs) : Within e s (t.setIdx i v) :=
  h.trans (.of_registers (fun _ hq => setIdx_same t v fun hqi => hq (hqi ▸ hi)) (by simp) (by simp) (by simp)
    (by simp) (by simp) (by simp))

theorem Within.bump {i : Idx} (n : Addr) (hi : i.name ∈ e.regs) : Within e s (t.bump i n) := h.setIdx _ hi

theorem Within.setBA (v : Byte) (ha : .a ∈ e.regs) (hb : .b ∈ e.regs) : Within e s (t.setBA v) :=
  (h.setReg (r := .b) (v.extractLsb' 4 4) hb).setReg (r := .a) (v.extractLsb' 0 4) ha

/-- C and Z move where the row lets them; C may also be given its old value again (R21). -/
theorem Within.setCZ {c : Bool} (z : Bool) (hc : e.c = true ∨ c = flagC t.f) (hz : e.z = true) :
    Within e s (t.setCZ c z) :=
  h.trans
    { regs := fun r _ => by cases r <;> rfl
      mem := fun _ _ => rfl
      keptI := by simp
      keptC := fun hn => by simpa [hn] using hc
      keptZ := fun hn => by simp [hz] at hn
      pc := rfl
      pairMask := rfl
      inReset := rfl
      cycles := rfl }

theorem Within.setZ (z : Bool) (hz : e.z = true) : Within e s (t.setZ z) :=
  h.setCZ (c := flagC t.f) z (.inr rfl) hz

end

/-! ### Memory and the stacks inside an instruction -/

theorem readWord_within {a : Addr} {v : Nibble} (e : Row) (h : readWord s a = .ok (v, t)) : Within e s t := by
  obtain ⟨hcore, hmem⟩ := readWord_sameCore h
  exact hcore.within fun n _ => by rw [wordAt, wordAt, hmem]

theorem writeWord_within {a : Addr} {v : Nibble} (h : writeWord s a v = .ok t) (ha : a ∈ e.stores) :
    Within e s t :=
  (writeWord_sameCore h).within fun _ hn => writeWord_other h (hn a ha).symm

theorem read2_within {a : Addr} {v : Byte} (e : Row) (h : read2 a s = .ok (v, t)) : Within e s t := by
  obtain ⟨lo, s1, hi, hlo, hhi, -⟩ := read2_ok.1 h
  exact (readWord_within e hlo).trans (readWord_within e hhi)

theorem write2_within {a : Addr} {v : Byte} (h : write2 a v s = .ok t) (ha : a ∈ e.stores)
    (ha' : a + 1#16 ∈ e.stores) : Within e s t := by
  obtain ⟨s1, hlo, hhi⟩ := write2_ok.1 h
  exact (writeWord_within hlo ha).trans (writeWord_within hhi ha')

theorem push4_within {v : Nibble} (h : push4 v s = .ok t) (hr : .sp2 ∈ e.regs)
    (ha : eaSp2 (s.sp2 - 1#8) ∈ e.stores) : Within e s t := by
  obtain ⟨-, rfl⟩ := push4_ok.1 h
  refine .of_parts (fun r hn => ?_) (fun n hn => lookup_insert_other _ _ (hn _ ha).symm) rfl rfl rfl rfl rfl
  cases r with
  | sp2 => exact absurd hr hn
  | _ => rfl

theorem pop4_within {v : Nibble} (h : pop4 s = .ok (v, t)) (hr : .sp2 ∈ e.regs) : Within e s t := by
  obtain ⟨-, -, rfl⟩ := pop4_ok.1 h
  refine .of_registers (fun r hn => ?_) rfl rfl rfl rfl rfl rfl
  cases r with
  | sp2 => exact absurd hr hn
  | _ => rfl

/-- The four addresses of an SP1 entry as numbers: no address of the 64K space is passed (R28, R49). -/
theorem toNat_mem_entry16 {p : Byte} {n : Nat} (hlo : (eaSp1 p).toNat ≤ n) (hhi : n ≤ (eaSp1 p).toNat + 3) :
    ∃ a ∈ entry16 p, a.toNat = n := by
  have hp := p.isLt
  rw [eaSp1_toNat] at hlo hhi
  have hadd : ∀ k : Addr, k.toNat ≤ 3 → (eaSp1 p + k).toNat = p.toNat * 4 + k.toNat := fun k hk => by
    rw [BitVec.toNat_add, eaSp1_toNat]; omega
  obtain rfl | rfl | rfl | rfl :
      n = p.toNat * 4 ∨ n = p.toNat * 4 + 1 ∨ n = p.toNat * 4 + 2 ∨ n = p.toNat * 4 + 3 := by omega
  · exact ⟨_, by simp [entry16], eaSp1_toNat p⟩
  · exact ⟨_, by simp [entry16], hadd 1#16 (by decide)⟩
  · exact ⟨_, by simp [entry16], hadd 2#16 (by decide)⟩
  · exact ⟨_, by simp [entry16], hadd 3#16 (by decide)⟩

/-- A 16-bit write at an SP1 entry changes the entry's words alone (R49). -/
theorem lookup_insert16_entry {p : Byte} {n : Nat} (m : Memory) (v : Addr) (h : ∀ a ∈ entry16 p, a.toNat ≠ n) :
    Cells.lookup (insert16 m (eaSp1 p).toNat v) n = Cells.lookup m n := by
  refine lookup_insert16_other _ _ _ _ ?_
  by_contra hcon
  obtain ⟨a, ha, han⟩ := toNat_mem_entry16 (p := p) (n := n) (by omega) (by omega)
  exact h a ha han

theorem push16_within {v : Addr} (h : push16 v s = .ok t) (hr : .sp1 ∈ e.regs) (hq : .q ∈ e.regs)
    (ha : ∀ a ∈ entry16 (s.sp1 - 1#8), a ∈ e.stores) : Within e s t := by
  obtain ⟨-, rfl⟩ := push16_ok.1 h
  refine .of_parts (fun r hn => ?_) (fun n hn => lookup_insert16_entry _ _ fun a hm => hn a (ha a hm)) rfl rfl rfl rfl rfl
  cases r with
  | sp1 => exact absurd hr hn
  | q => exact absurd hq hn
  | _ => rfl

theorem setSp1_within {p : Byte} (h : setSp1 p s = .ok t) (hr : .sp1 ∈ e.regs) (hq : .q ∈ e.regs) :
    Within e s t := by
  obtain ⟨-, rfl⟩ := setSp1_ok.1 h
  refine .of_registers (fun r hn => ?_) rfl rfl rfl rfl rfl rfl
  cases r with
  | sp1 => exact absurd hr hn
  | q => exact absurd hq hn
  | _ => rfl

theorem pop16_within {v : Addr} (h : pop16 s = .ok (v, t)) (hr : .sp1 ∈ e.regs) (hq : .q ∈ e.regs) :
    Within e s t :=
  setSp1_within (pop16_ok.1 h).2 hr hq

theorem saveContext_within {ret : Addr} (h : saveContext ret s = .ok t) (hr : .sp1 ∈ e.regs) (hq : .q ∈ e.regs)
    (hr2 : .sp2 ∈ e.regs) (ha : ∀ a ∈ eaSp2 (s.sp2 - 1#8) :: entry16 (s.sp1 - 1#8), a ∈ e.stores) :
    Within e s t := by
  obtain ⟨s1, h4, h16⟩ := saveContext_ok.1 h
  have hsp1 : s1.sp1 = s.sp1 := by
    obtain ⟨-, rfl⟩ := push4_ok.1 h4
    rfl
  have hw := push4_within h4 hr2 (ha _ List.mem_cons_self)
  exact hw.trans (push16_within h16 hr hq fun a hm => ha a (List.mem_cons_of_mem _ (hsp1 ▸ hm)))

/-! ### Operations of the arithmetic unit -/

/-- The operation leaves C as it was: AND, OR, XOR, BIT, CLR, SET, TST (R21). -/
def KeepsC (op : AluOp) : Prop := ∀ c x y, (op c x y).c = c

section
variable {op : AluOp} (hc : e.c = true ∨ KeepsC op) (hz : e.z = true)
include hc hz

/-- C from an operation whose old C is that of the state. -/
theorem Within.setOp (h : Within e s t) {f x y : Nibble} (hf : f = t.f) :
    Within e s (t.setCZ (op (flagC f) x y).c (op (flagC f) x y).z) :=
  h.setCZ _ (hc.imp_right fun hk => hf ▸ hk _ _ _) hz

theorem Within.aluTest (h : Within e s t) (x y : Nibble) : Within e s (aluTest op x y t) := h.setOp hc hz rfl

theorem Within.aluReg (h : Within e s t) {r : Reg} (y : Nibble) (hr : r.name ∈ e.regs) :
    Within e s (aluReg op r y t) :=
  (h.setReg _ hr).setOp hc hz (setReg_f t r _).symm

theorem modifyAt_within {a : Addr} {y : Nibble} (h : modifyAt op a y s = .ok t) (ha : a ∈ e.stores) :
    Within e s t := by
  obtain ⟨x, s1, s2, hr, hw, rfl⟩ := modifyAt_ok.1 h
  have hf : s.f = s2.f := by rw [(writeWord_sameCore hw).f, (readWord_sameCore hr).1.f]
  exact ((readWord_within e hr).trans (writeWord_within hw ha)).setOp hc hz hf

theorem testAt_within {a : Addr} {y : Nibble} (h : testAt op a y s = .ok t) : Within e s t := by
  obtain ⟨x, s1, hr, rfl⟩ := testAt_ok.1 h
  exact (readWord_within e hr).aluTest hc hz _ _

end

theorem exchangeAt_within {r : Reg} {a : Addr} (h : exchangeAt r a s = .ok t) (hr : r.name ∈ e.regs)
    (ha : a ∈ e.stores) : Within e s t := by
  obtain ⟨v, s1, s2, hrd, hw, rfl⟩ := exchangeAt_ok.1 h
  exact ((readWord_within e hrd).trans (writeWord_within hw ha)).setReg v hr

/-! ### The ends of an instruction -/

section
variable (h : Within e s t)
include h

/-- The end that clears E and `defer` (R24, R33), at the next address or at a target (R17). -/
theorem Within.retireTo {p : Addr} (he : e.Plain) (hp : e.jumps = true ∨ p = s.pc + 1#16) :
    Follows e s (t.retireTo e.cycles p) where
  regs := h.regs
  mem := h.mem
  leftE _ := by simp [he.setsE]
  keptI _ := by simp [h.keptI]
  keptC hc := by simp [h.keptC hc]
  keptZ hz := by simp [h.keptZ hz]
  pc hj := by simpa [hj] using hp
  defer := by simp [he.newF, he.setsE, he.pointer]
  pairMask := by simp [he.pointer, h.pairMask]
  inReset := h.inReset
  cycles := by simp [h.cycles]

theorem Within.retire (he : e.Plain) : Follows e s (t.retire e.cycles) := h.retireTo he (.inr (by rw [h.pc]))

/-- The end of an instruction that replaces F whole (R24, R33). -/
theorem Within.retireF {p : Addr} (v : Nibble) (hp : e.jumps = true ∨ p = s.pc + 1#16) (hf : e.newF = true)
    (hc : e.c = true) (hz : e.z = true) (hsp : e.pointer = none) :
    Follows e s (t.retireF e.cycles p v) where
  regs := h.regs
  mem := h.mem
  leftE hn := by simp [hf] at hn
  keptI hn := by simp [hf] at hn
  keptC hn := by simp [hc] at hn
  keptZ hn := by simp [hz] at hn
  pc hj := by simpa [hj] using hp
  defer := by simp [hf]
  pairMask := by simp [hsp, h.pairMask]
  inReset := h.inReset
  cycles := by simp [h.cycles]

/-- The end of an instruction that sets E (R23, R33). -/
theorem Within.retireE (hs : e.setsE = true) (hsp : e.pointer = none) :
    Follows e s (t.retireF e.cycles (t.pc + 1#16) (withE t.f true)) where
  regs := h.regs
  mem := h.mem
  leftE _ := by simp [hs]
  keptI _ := by simp [h.keptI]
  keptC hc := by simp [h.keptC hc]
  keptZ hz := by simp [h.keptZ hz]
  pc _ := by simp [h.pc]
  defer := by simp [hs]
  pairMask := by simp [hsp, h.pairMask]
  inReset := h.inReset
  cycles := by simp [h.cycles]

/-- The end of an instruction that sets a stack pointer from BA (R32, R33). -/
theorem Within.retireSp {w : StackPtr} (hs : e.setsE = false) (hsp : e.pointer = some w) :
    Follows e s (t.retireSp e.cycles w) where
  regs := h.regs
  mem := h.mem
  leftE _ := by simp [hs]
  keptI _ := by simp [h.keptI]
  keptC hc := by simp [h.keptC hc]
  keptZ hz := by simp [h.keptZ hz]
  pc _ := by simp [h.pc]
  defer := by simp [hsp]
  pairMask := by simp [hsp, h.pairMask]
  inReset := h.inReset
  cycles := by simp [h.cycles]

end

end

end Sys2Proof.Machine
end

section
/-! How each instruction follows its row: the operand forms, the instructions with a meaning of their own, then `exec`. -/

namespace Sys2Proof.Machine

/-- The increments of a copy, each 0 or 1. -/
def Idx.incremented (i : Idx) (n : Addr) : List RegName := if n = 0#16 then [] else [i.name]

theorem bump_zero (s : State) (i : Idx) : s.bump i 0#16 = s := by cases i <;> simp [State.bump, State.setIdx, State.idx]

theorem Within.bumpBy {e : Row} {s t : State} (h : Within e s t) {i : Idx} (n : Addr)
    (hi : ∀ r ∈ i.incremented n, r ∈ e.regs) : Within e s (t.bump i n) := by
  by_cases hn : n = 0#16
  · rw [hn, bump_zero]
    exact h
  · exact h.bump n (hi _ (by simp [Idx.incremented, hn]))

/-! ### The operand forms -/

section
variable {s t : State} {n : Nat} {c : Bool} {op : AluOp} {r : Reg} {i j : Idx} {v y : Nibble} {a : Addr}

theorem putReg_follows (h : putReg r v s = .next t) : Follows { regs := [r.name] } s t := by
  obtain ⟨-, rfl⟩ := putReg_next.1 h
  exact ((Within.refl _ s).setReg v (by simp)).retire ⟨rfl, rfl, rfl⟩

theorem putF_follows (h : putF v s = .next t) : Follows { c := true, z := true, newF := true } s t := by
  obtain ⟨-, rfl⟩ := putF_next.1 h
  exact (Within.refl _ s).retireF v (.inr rfl) rfl rfl rfl rfl

theorem loadMem_follows (h : loadMem r i s = .next t) : Follows { regs := [r.name] } s t := by
  obtain ⟨v, s1, hr, rfl⟩ := loadMem_next.1 h
  exact ((readWord_within _ hr).setReg v (by simp)).retire ⟨rfl, rfl, rfl⟩

theorem loadMemInc_follows (h : loadMemInc r i s = .next t) : Follows { regs := [r.name, i.name] } s t := by
  obtain ⟨-, v, s1, hr, rfl⟩ := loadMemInc_next.1 h
  exact (((readWord_within _ hr).setReg v (by simp)).bump _ (by simp)).retire ⟨rfl, rfl, rfl⟩

theorem storeMem_follows (h : storeMem i v s = .next t) : Follows { stores := [eaInd s i] } s t := by
  obtain ⟨s1, hw, rfl⟩ := storeMem_next.1 h
  exact (writeWord_within hw (by simp)).retire ⟨rfl, rfl, rfl⟩

theorem storeMemInc_follows (h : storeMemInc i v s = .next t) :
    Follows { regs := [i.name], stores := [s.idx i] } s t := by
  obtain ⟨-, s1, hw, rfl⟩ := storeMemInc_next.1 h
  exact ((writeWord_within hw (by simp)).bump _ (by simp)).retire ⟨rfl, rfl, rfl⟩

theorem copyMem_follows {m k : Addr} (h : copyMem i m j k s = .next t) :
    Follows { regs := i.incremented m ++ j.incremented k, stores := [s.idx i], cycles := 2 } s t := by
  obtain ⟨-, v, s1, s2, hr, hw, rfl⟩ := copyMem_next.1 h
  exact ((((readWord_within _ hr).trans (writeWord_within hw (by simp))).bumpBy m fun _ => List.mem_append_left _).bumpBy k
    fun _ => List.mem_append_right _).retire ⟨rfl, rfl, rfl⟩

theorem exchangeMem_follows (h : exchangeMem r i s = .next t) :
    Follows { regs := [r.name], stores := [eaInd s i], cycles := 2 } s t := by
  obtain ⟨s1, hx, rfl⟩ := exchangeMem_next.1 h
  exact (exchangeAt_within hx (by simp) (by simp)).retire ⟨rfl, rfl, rfl⟩

theorem exchangeMemInc_follows (h : exchangeMemInc r i s = .next t) :
    Follows { regs := [r.name, i.name], stores := [s.idx i], cycles := 2 } s t := by
  obtain ⟨-, s1, hx, rfl⟩ := exchangeMemInc_next.1 h
  exact ((exchangeAt_within hx (by simp) (by simp)).bump _ (by simp)).retire ⟨rfl, rfl, rfl⟩

theorem putBA_follows {b : Byte} (h : putBA b s = .next t) : Follows { regs := [.a, .b] } s t := by
  obtain ⟨-, rfl⟩ := putBA_next.1 h
  exact ((Within.refl _ s).setBA b (by simp) (by simp)).retire ⟨rfl, rfl, rfl⟩

theorem loadBA_follows (h : loadBA i s = .next t) : Follows { regs := [.a, .b, i.name], cycles := 2 } s t := by
  obtain ⟨-, b, s1, hr, rfl⟩ := loadBA_next.1 h
  exact (((read2_within _ hr).setBA b (by simp) (by simp)).bump _ (by simp)).retire ⟨rfl, rfl, rfl⟩

theorem store2_follows {b : Byte} (h : store2 i b s = .next t) :
    Follows { regs := [i.name], stores := [s.idx i, s.idx i + 1#16], cycles := 2 } s t := by
  obtain ⟨-, s1, hw, rfl⟩ := store2_next.1 h
  exact ((write2_within hw (by simp) (by simp)).bump _ (by simp)).retire ⟨rfl, rfl, rfl⟩

theorem putExt_follows {b : Byte} (h : putExt b s = .next t) : Follows { regs := [.ext], setsE := true } s t := by
  obtain ⟨-, rfl⟩ := putExt_next.1 h
  have hw : Within { regs := [.ext], setsE := true } s { s with ext := b } := by
    refine .of_registers (fun r hn => ?_) rfl rfl rfl rfl rfl rfl
    cases r with
    | ext => simp at hn
    | _ => rfl
  exact hw.retireE rfl rfl

theorem putLow_follows {b : Byte} (h : putLow i b s = .next t) : Follows { regs := [i.name] } s t := by
  obtain rfl := putLow_next.1 h
  exact ((Within.refl _ s).setIdx _ (by simp)).retire ⟨rfl, rfl, rfl⟩

theorem putLowBA_follows (h : putLowBA i s = .next t) : Follows { regs := [i.name] } s t := by
  obtain ⟨-, rfl⟩ := putLowBA_next.1 h
  exact ((Within.refl _ s).setIdx _ (by simp)).retire ⟨rfl, rfl, rfl⟩

theorem putHighBA_follows (h : putHighBA i s = .next t) : Follows { regs := [i.name] } s t := by
  obtain ⟨-, rfl⟩ := putHighBA_next.1 h
  exact ((Within.refl _ s).setIdx _ (by simp)).retire ⟨rfl, rfl, rfl⟩

theorem cmpIdx_follows {b : Byte} (h : cmpIdx i b s = .next t) : Follows { c := true, z := true } s t := by
  obtain rfl := cmpIdx_next.1 h
  exact ((Within.refl _ s).setCZ _ (.inl rfl) rfl).retire ⟨rfl, rfl, rfl⟩

/-! ### The operand forms with an operation of the arithmetic unit: C follows the operation -/

section
variable (hc : c = true ∨ KeepsC op)
include hc

theorem regForm_follows (h : regForm n op r y s = .next t) :
    Follows { regs := [r.name], c := c, z := true, cycles := n } s t := by
  obtain ⟨-, rfl⟩ := regForm_next.1 h
  exact ((Within.refl _ s).aluReg hc rfl y (by simp)).retire ⟨rfl, rfl, rfl⟩

theorem regMemForm_follows (h : regMemForm n op r i s = .next t) :
    Follows { regs := [r.name], c := c, z := true, cycles := n } s t := by
  obtain ⟨y, s1, hr, rfl⟩ := regMemForm_next.1 h
  exact ((readWord_within _ hr).aluReg hc rfl y (by simp)).retire ⟨rfl, rfl, rfl⟩

theorem regMemIncForm_follows (h : regMemIncForm n op r i s = .next t) :
    Follows { regs := [r.name, i.name], c := c, z := true, cycles := n } s t := by
  obtain ⟨-, y, s1, hr, rfl⟩ := regMemIncForm_next.1 h
  exact (((readWord_within _ hr).aluReg hc rfl y (by simp)).bump _ (by simp)).retire ⟨rfl, rfl, rfl⟩

theorem regTest_follows (h : regTest op r y s = .next t) : Follows { c := c, z := true } s t := by
  obtain ⟨-, rfl⟩ := regTest_next.1 h
  exact ((Within.refl _ s).aluTest hc rfl _ y).retire ⟨rfl, rfl, rfl⟩

theorem regMemTest_follows (h : regMemTest op r i s = .next t) : Follows { c := c, z := true } s t := by
  obtain ⟨y, s1, hr, rfl⟩ := regMemTest_next.1 h
  exact ((readWord_within _ hr).aluTest hc rfl _ y).retire ⟨rfl, rfl, rfl⟩

theorem regMemIncTest_follows (h : regMemIncTest op r i s = .next t) :
    Follows { regs := [i.name], c := c, z := true } s t := by
  obtain ⟨-, y, s1, hr, rfl⟩ := regMemIncTest_next.1 h
  exact (((readWord_within _ hr).aluTest hc rfl _ y).bump _ (by simp)).retire ⟨rfl, rfl, rfl⟩

theorem memForm_follows (h : memForm n op i y s = .next t) :
    Follows { stores := [eaInd s i], c := c, z := true, cycles := n } s t := by
  obtain ⟨s1, hm, rfl⟩ := memForm_next.1 h
  exact (modifyAt_within hc rfl hm (by simp)).retire ⟨rfl, rfl, rfl⟩

theorem memIncForm_follows (h : memIncForm n op i y s = .next t) :
    Follows { regs := [i.name], stores := [s.idx i], c := c, z := true, cycles := n } s t := by
  obtain ⟨-, s1, hm, rfl⟩ := memIncForm_next.1 h
  exact ((modifyAt_within hc rfl hm (by simp)).bump _ (by simp)).retire ⟨rfl, rfl, rfl⟩

theorem memTest_follows (h : memTest op i y s = .next t) : Follows { c := c, z := true } s t := by
  obtain ⟨s1, ht, rfl⟩ := memTest_next.1 h
  exact (testAt_within hc rfl ht).retire ⟨rfl, rfl, rfl⟩

theorem memIncTest_follows (h : memIncTest op i y s = .next t) :
    Follows { regs := [i.name], c := c, z := true } s t := by
  obtain ⟨-, s1, ht, rfl⟩ := memIncTest_next.1 h
  exact ((testAt_within hc rfl ht).bump _ (by simp)).retire ⟨rfl, rfl, rfl⟩

theorem absForm_follows (h : absForm op a y s = .next t) :
    Follows { stores := [a], c := c, z := true, cycles := 2 } s t := by
  obtain ⟨-, s1, hm, rfl⟩ := absForm_next.1 h
  exact (modifyAt_within hc rfl hm (by simp)).retire ⟨rfl, rfl, rfl⟩

theorem absTest_follows (h : absTest op a y s = .next t) : Follows { c := c, z := true } s t := by
  obtain ⟨-, s1, ht, rfl⟩ := absTest_next.1 h
  exact (testAt_within hc rfl ht).retire ⟨rfl, rfl, rfl⟩

end

end

/-! ### Stack pointers, stacks and branches -/

section
variable {s t : State} {r : Reg} {i : Idx} {v : Nibble} {b : Byte} {a : BitVec 6}

/-- SP2 set to a value, nothing else. -/
theorem sp2_within (s : State) (b : Byte) {e : Row} (hr : .sp2 ∈ e.regs) : Within e s { s with sp2 := b } := by
  refine .of_registers (fun r hn => ?_) rfl rfl rfl rfl rfl rfl
  cases r with
  | sp2 => exact absurd hr hn
  | _ => rfl

theorem putSp1BA_follows (h : putSp1BA s = .next t) : Follows { regs := [.sp1, .q], pointer := some .sp1 } s t := by
  obtain ⟨-, s1, hsp, rfl⟩ := putSp1BA_next.1 h
  exact (setSp1_within hsp (by simp) (by simp)).retireSp rfl rfl

theorem putSp2BA_follows (h : putSp2BA s = .next t) : Follows { regs := [.sp2], pointer := some .sp2 } s t := by
  obtain ⟨-, rfl⟩ := putSp2BA_next.1 h
  exact (sp2_within s s.ba (by simp)).retireSp rfl rfl

theorem stepSp1_follows (h : stepSp1 b s = .next t) : Follows { regs := [.sp1, .q], z := true } s t := by
  obtain ⟨-, s1, hsp, rfl⟩ := stepSp1_next.1 h
  exact ((setSp1_within hsp (by simp) (by simp)).setZ _ rfl).retire ⟨rfl, rfl, rfl⟩

theorem stepSp2_follows (h : stepSp2 b s = .next t) : Follows { regs := [.sp2], z := true } s t := by
  obtain ⟨-, rfl⟩ := stepSp2_next.1 h
  exact ((sp2_within s b (by simp)).setZ _ rfl).retire ⟨rfl, rfl, rfl⟩

theorem pushNibble_follows (h : pushNibble v s = .next t) :
    Follows { regs := [.sp2], stores := [eaSp2 (s.sp2 - 1#8)] } s t := by
  obtain ⟨-, s1, hp, rfl⟩ := pushNibble_next.1 h
  exact (push4_within hp (by simp) (by simp)).retire ⟨rfl, rfl, rfl⟩

theorem popReg_follows (h : popReg r s = .next t) : Follows { regs := [r.name, .sp2] } s t := by
  obtain ⟨-, v, s1, hp, rfl⟩ := popReg_next.1 h
  exact ((pop4_within hp (by simp)).setReg v (by simp)).retire ⟨rfl, rfl, rfl⟩

theorem pushIdx_follows (h : pushIdx i s = .next t) :
    Follows { regs := [.sp1, .q], stores := entry16 (s.sp1 - 1#8) } s t := by
  obtain ⟨-, s1, hp, rfl⟩ := pushIdx_next.1 h
  exact (push16_within hp (by simp) (by simp) fun _ => id).retire ⟨rfl, rfl, rfl⟩

theorem popIdx_follows (h : popIdx i s = .next t) : Follows { regs := [i.name, .sp1, .q] } s t := by
  obtain ⟨-, v, s1, hp, rfl⟩ := popIdx_next.1 h
  exact ((pop16_within hp (by simp) (by simp)).setIdx v (by simp)).retire ⟨rfl, rfl, rfl⟩

theorem jumpIf_follows {taken : Bool} (h : jumpIf taken b s = .next t) : Follows { jumps := true } s t := by
  obtain rfl := jumpIf_next.1 h
  exact (Within.refl _ s).retireTo ⟨rfl, rfl, rfl⟩ (.inl rfl)

theorem jumpTo_follows {p : Addr} (h : jumpTo p s = .next t) : Follows { jumps := true } s t := by
  obtain ⟨-, rfl⟩ := jumpTo_next.1 h
  exact (Within.refl _ s).retireTo ⟨rfl, rfl, rfl⟩ (.inl rfl)

/-! ### The instructions with a meaning of their own -/

theorem execExAB_follows (h : execExAB s = .next t) : Follows { regs := [.a, .b] } s t := by
  obtain ⟨-, rfl⟩ := execExAB_next.1 h
  exact (((Within.refl _ s).setReg (r := .a) s.b (by simp)).setReg (r := .b) s.a (by simp)).retire ⟨rfl, rfl, rfl⟩

theorem addIdx_follows (i : Idx) (d : Addr) (s : State) :
    Follows { regs := [i.name], z := true } s ((addIdx i d s).retire 1) :=
  (((Within.refl _ s).setIdx _ (by simp)).setZ _ rfl).retire ⟨rfl, rfl, rfl⟩

theorem execAddXBA_follows (h : execAddXBA s = .next t) : Follows { regs := [.x], z := true } s t := by
  obtain ⟨-, rfl⟩ := execAddXBA_next.1 h
  exact addIdx_follows .x _ s

theorem execAddYBA_follows (h : execAddYBA s = .next t) : Follows { regs := [.y], z := true } s t := by
  obtain ⟨-, rfl⟩ := execAddYBA_next.1 h
  exact addIdx_follows .y _ s

theorem execAddXSign8_follows (h : execAddXSign8 b s = .next t) : Follows { regs := [.x], z := true } s t := by
  obtain rfl := execAddXSign8_next.1 h
  exact addIdx_follows .x _ s

theorem execAddYSign8_follows (h : execAddYSign8 b s = .next t) : Follows { regs := [.y], z := true } s t := by
  obtain rfl := execAddYSign8_next.1 h
  exact addIdx_follows .y _ s

theorem execPopF_follows (h : execPopF s = .next t) :
    Follows { regs := [.sp2], c := true, z := true, newF := true } s t := by
  obtain ⟨-, v, s1, hp, rfl⟩ := execPopF_next.1 h
  have hw : Within { regs := [.sp2], c := true, z := true, newF := true } s s1 := pop4_within hp (by simp)
  exact hw.retireF v (.inr (by rw [hw.pc])) rfl rfl rfl rfl

theorem execJrMemAddr6_follows (h : execJrMemAddr6 a s = .next t) : Follows { jumps := true, cycles := 2 } s t := by
  obtain ⟨-, v, s1, hr, rfl⟩ := execJrMemAddr6_next.1 h
  exact (readWord_within _ hr).retireTo ⟨rfl, rfl, rfl⟩ (.inl rfl)

theorem execCalzImm8_follows (h : execCalzImm8 b s = .next t) :
    Follows { regs := [.sp1, .q], stores := entry16 (s.sp1 - 1#8), jumps := true } s t := by
  obtain ⟨-, s1, hp, rfl⟩ := execCalzImm8_next.1 h
  exact (push16_within hp (by simp) (by simp) fun _ => id).retireTo ⟨rfl, rfl, rfl⟩ (.inl rfl)

theorem execCalrSign8_follows (h : execCalrSign8 b s = .next t) :
    Follows { regs := [.sp1, .q], stores := entry16 (s.sp1 - 1#8), jumps := true } s t := by
  obtain ⟨s1, hp, rfl⟩ := execCalrSign8_next.1 h
  exact (push16_within hp (by simp) (by simp) fun _ => id).retireTo ⟨rfl, rfl, rfl⟩ (.inl rfl)

theorem execCalrMemAddr6_follows (h : execCalrMemAddr6 a s = .next t) :
    Follows { regs := [.sp1, .q], stores := entry16 (s.sp1 - 1#8), jumps := true, cycles := 2 } s t := by
  obtain ⟨-, s1, v, s2, hp, hr, rfl⟩ := execCalrMemAddr6_next.1 h
  exact ((push16_within hp (by simp) (by simp) fun _ => id).trans (readWord_within _ hr)).retireTo ⟨rfl, rfl, rfl⟩
    (.inl rfl)

theorem execRet_follows (h : execRet s = .next t) : Follows { regs := [.sp1, .q], jumps := true } s t := by
  obtain ⟨-, ret, s1, hp, rfl⟩ := execRet_next.1 h
  exact (pop16_within hp (by simp) (by simp)).retireTo ⟨rfl, rfl, rfl⟩ (.inl rfl)

theorem execRets_follows (h : execRets s = .next t) :
    Follows { regs := [.sp1, .q], jumps := true, cycles := 2 } s t := by
  obtain ⟨-, ret, s1, hp, rfl⟩ := execRets_next.1 h
  exact (pop16_within hp (by simp) (by simp)).retireTo ⟨rfl, rfl, rfl⟩ (.inl rfl)

theorem execRetdImm8_follows (h : execRetdImm8 b s = .next t) :
    Follows { regs := [.sp1, .q, .x], stores := [s.x, s.x + 1#16], jumps := true, cycles := 3 } s t := by
  obtain ⟨-, ret, s1, s2, hp, hw, rfl⟩ := execRetdImm8_next.1 h
  have hx : s1.x = s.x := by
    obtain ⟨-, rfl⟩ := setSp1_ok.1 (pop16_ok.1 hp).2
    rfl
  rw [hx] at hw
  have hpop := pop16_within hp (e := { regs := [.sp1, .q, .x], stores := [s.x, s.x + 1#16], jumps := true, cycles := 3 })
    (by simp) (by simp)
  exact ((hpop.trans (write2_within hw (by simp) (by simp))).bump (i := .x) 2#16 (by simp)).retireTo ⟨rfl, rfl, rfl⟩
    (.inl rfl)

theorem execReti_follows (h : execReti s = .next t) :
    Follows { regs := [.sp1, .q, .sp2], c := true, z := true, jumps := true, newF := true, cycles := 2 } s t := by
  obtain ⟨-, hret⟩ := execReti_next.1 h
  obtain ⟨ret, s1, v, s2, hp, hf, rfl⟩ := returnFromInterrupt_ok.1 hret
  exact ((pop16_within hp (by simp) (by simp)).trans (pop4_within hf (by simp))).retireF v (.inl rfl) rfl rfl rfl rfl

theorem execIntImm6_follows (h : execIntImm6 a s = .next t) :
    Follows
      { regs := [.sp1, .q, .sp2], stores := eaSp2 (s.sp2 - 1#8) :: entry16 (s.sp1 - 1#8), jumps := true, cycles := 3 }
      s t := by
  obtain ⟨-, s1, hs, rfl⟩ := execIntImm6_next.1 h
  exact (saveContext_within hs (by simp) (by simp) (by simp) fun _ => id).retireTo ⟨rfl, rfl, rfl⟩ (.inl rfl)

theorem execNop_follows (h : execNop s = .next t) : Follows {} s t := by
  obtain ⟨-, rfl⟩ := execNop_next.1 h
  exact (Within.refl _ s).retire ⟨rfl, rfl, rfl⟩

theorem execHalt_follows (h : execHalt s = .next t) : Follows { cycles := 2 } s t := by
  obtain ⟨-, rfl⟩ := execHalt_next.1 h
  have hw : Within { cycles := 2 } s { s with run := .halt } :=
    .of_registers (fun r _ => by cases r <;> rfl) rfl rfl rfl rfl rfl rfl
  exact hw.retire ⟨rfl, rfl, rfl⟩

theorem execSlp_follows (h : execSlp s = .next t) : Follows { cycles := 2 } s t := by
  obtain ⟨-, rfl⟩ := execSlp_next.1 h
  have hw : Within { cycles := 2 } s ({ s with run := .sleep }.emit .uslp) :=
    .of_registers (fun r _ => by cases r <;> rfl) rfl rfl rfl rfl rfl rfl
  exact hw.retire ⟨rfl, rfl, rfl⟩

end

end Sys2Proof.Machine
end

section
/-! Every instruction follows its lines of the tables. -/

namespace Sys2Proof.Machine

/-- The instructions by the operation that gives them their meaning; C stays where that operation leaves it, and is written
elsewhere (R21). -/
theorem exec_follows {i : Instr} {s t : State} (h : exec i s = .next t) : Follows (tableRow i s) s t := by
  cases i with
  | ldAImm4 | ldBImm4 | ldAA | ldAB | ldAF | ldBA | ldBB => exact putReg_follows h
  | ldFImm4 | andFImm4 | orFImm4 | xorFImm4 | ldFA => exact putF_follows h
  | ldMemXImm4 | ldMemYImm4 | ldMemXA | ldMemXB | ldMemYA | ldMemYB => exact storeMem_follows h
  | ldMemXIncImm4 | ldMemYIncImm4 | ldMemXIncA | ldMemXIncB | ldMemYIncA | ldMemYIncB => exact storeMemInc_follows h
  | addAImm4 | addBImm4 | adcAImm4 | adcBImm4 | subAImm4 | subBImm4 | sbcAImm4 | sbcBImm4 | adcBAN4 | sbcBAN4
  | addAA | addAB | addBA | addBB | adcAA | adcAB | adcBA | adcBB | subAA | subAB | subBA | subBB | sbcAA | sbcAB
  | sbcBA | sbcBB | sllA | sllB | srlA | srlB | rlA | rlB | rrA | rrB => exact regForm_follows (.inl rfl) h
  | andAImm4 | andBImm4 | orAImm4 | orBImm4 | xorAImm4 | xorBImm4 | andAA | andAB | andBA | andBB | orAA | orAB
  | orBA | orBB | xorAA | xorAB | xorBA | xorBB => exact regForm_follows (.inr fun _ _ _ => rfl) h
  | addMemXImm4 | addMemYImm4 | adcMemXImm4 | adcMemYImm4 | subMemXImm4 | subMemYImm4 | sbcMemXImm4 | sbcMemYImm4
  | adcMemXBN4 | adcMemYBN4 | adcMemXZeroN4 | adcMemYZeroN4 | sbcMemXBN4 | sbcMemYBN4 | sbcMemXZeroN4
  | sbcMemYZeroN4 | incMemXN4 | incMemYN4 | decMemXN4 | decMemYN4 | addMemXA | addMemXB | addMemYA | addMemYB
  | adcMemXA | adcMemXB | adcMemYA | adcMemYB | subMemXA | subMemXB | subMemYA | subMemYB | sbcMemXA | sbcMemXB
  | sbcMemYA | sbcMemYB | sllMemX | sllMemY | srlMemX | srlMemY | rlMemX | rlMemY | rrMemX
  | rrMemY => exact memForm_follows (.inl rfl) h
  | andMemXImm4 | andMemYImm4 | orMemXImm4 | orMemYImm4 | xorMemXImm4 | xorMemYImm4 | andMemXA | andMemXB | andMemYA
  | andMemYB | orMemXA | orMemXB | orMemYA | orMemYB | xorMemXA | xorMemXB | xorMemYA
  | xorMemYB => exact memForm_follows (.inr fun _ _ _ => rfl) h
  | addMemXIncImm4 | addMemYIncImm4 | adcMemXIncImm4 | adcMemYIncImm4 | subMemXIncImm4 | subMemYIncImm4
  | sbcMemXIncImm4 | sbcMemYIncImm4 | adcMemXIncBN4 | adcMemYIncBN4 | adcMemXIncZeroN4 | adcMemYIncZeroN4
  | sbcMemXIncBN4 | sbcMemYIncBN4 | sbcMemXIncZeroN4 | sbcMemYIncZeroN4 | incMemXIncN4 | incMemYIncN4 | decMemXIncN4
  | decMemYIncN4 | addMemXIncA | addMemXIncB | addMemYIncA | addMemYIncB | adcMemXIncA | adcMemXIncB | adcMemYIncA
  | adcMemYIncB | subMemXIncA | subMemXIncB | subMemYIncA | subMemYIncB | sbcMemXIncA | sbcMemXIncB | sbcMemYIncA
  | sbcMemYIncB | sllMemXInc | sllMemYInc | srlMemXInc | srlMemYInc | rlMemXInc | rlMemYInc | rrMemXInc
  | rrMemYInc => exact memIncForm_follows (.inl rfl) h
  | andMemXIncImm4 | andMemYIncImm4 | orMemXIncImm4 | orMemYIncImm4 | xorMemXIncImm4 | xorMemYIncImm4 | andMemXIncA
  | andMemXIncB | andMemYIncA | andMemYIncB | orMemXIncA | orMemXIncB | orMemYIncA | orMemYIncB | xorMemXIncA
  | xorMemXIncB | xorMemYIncA | xorMemYIncB => exact memIncForm_follows (.inr fun _ _ _ => rfl) h
  | cmpAImm4 | cmpBImm4 | cmpAA | cmpAB | cmpBA | cmpBB => exact regTest_follows (.inl rfl) h
  | bitAImm4 | bitBImm4 | bitAA | bitAB | bitBA | bitBB => exact regTest_follows (.inr fun _ _ _ => rfl) h
  | cmpMemXImm4 | cmpMemYImm4 | cmpMemXA | cmpMemXB | cmpMemYA | cmpMemYB => exact memTest_follows (.inl rfl) h
  | bitMemXImm4 | bitMemYImm4 | bitMemXA | bitMemXB | bitMemYA
  | bitMemYB => exact memTest_follows (.inr fun _ _ _ => rfl) h
  | cmpMemXIncImm4 | cmpMemYIncImm4 | cmpMemXIncA | cmpMemXIncB | cmpMemYIncA
  | cmpMemYIncB => exact memIncTest_follows (.inl rfl) h
  | bitMemXIncImm4 | bitMemYIncImm4 | bitMemXIncA | bitMemXIncB | bitMemYIncA
  | bitMemYIncB => exact memIncTest_follows (.inr fun _ _ _ => rfl) h
  | incMemAddr6 | decMemAddr6 => exact absForm_follows (.inl rfl) h
  | clrMem00Addr6Imm2 | clrMemFFAddr6Imm2 | setMem00Addr6Imm2
  | setMemFFAddr6Imm2 => exact absForm_follows (.inr fun _ _ _ => rfl) h
  | adcBMemXN4 | adcBMemYN4 | sbcBMemXN4 | sbcBMemYN4 | addAMemX | addAMemY | addBMemX | addBMemY | adcAMemX
  | adcAMemY | adcBMemX | adcBMemY | subAMemX | subAMemY | subBMemX | subBMemY | sbcAMemX | sbcAMemY | sbcBMemX
  | sbcBMemY => exact regMemForm_follows (.inl rfl) h
  | andAMemX | andAMemY | andBMemX | andBMemY | orAMemX | orAMemY | orBMemX | orBMemY | xorAMemX | xorAMemY
  | xorBMemX | xorBMemY => exact regMemForm_follows (.inr fun _ _ _ => rfl) h
  | adcBMemXIncN4 | adcBMemYIncN4 | sbcBMemXIncN4 | sbcBMemYIncN4 | addAMemXInc | addAMemYInc | addBMemXInc
  | addBMemYInc | adcAMemXInc | adcAMemYInc | adcBMemXInc | adcBMemYInc | subAMemXInc | subAMemYInc | subBMemXInc
  | subBMemYInc | sbcAMemXInc | sbcAMemYInc | sbcBMemXInc | sbcBMemYInc => exact regMemIncForm_follows (.inl rfl) h
  | andAMemXInc | andAMemYInc | andBMemXInc | andBMemYInc | orAMemXInc | orAMemYInc | orBMemXInc | orBMemYInc
  | xorAMemXInc | xorAMemYInc | xorBMemXInc | xorBMemYInc => exact regMemIncForm_follows (.inr fun _ _ _ => rfl) h
  | tstMem00Addr6Imm2 | tstMemFFAddr6Imm2 => exact absTest_follows (.inr fun _ _ _ => rfl) h
  | ldbBAImm8 | ldbBAEXT | ldbBAXL | ldbBAXH | ldbBAYL | ldbBAYH | ldbBASP1 | ldbBASP2 => exact putBA_follows h
  | ldbMemXIncImm8 | ldbMemXIncBA | ldbMemYIncBA => exact store2_follows h
  | ldbEXTImm8 | ldbEXTBA => exact putExt_follows h
  | ldbXLImm8 | ldbYLImm8 => exact putLow_follows h
  | addXSign8 => exact execAddXSign8_follows h
  | addYSign8 => exact execAddYSign8_follows h
  | cmpXImm8 | cmpYImm8 => exact cmpIdx_follows h
  | jrSign8 | jrcSign8 | jrncSign8 | jrzSign8 | jrnzSign8 => exact jumpIf_follows h
  | jrMemAddr6 => exact execJrMemAddr6_follows h
  | calzImm8 => exact execCalzImm8_follows h
  | calrSign8 => exact execCalrSign8_follows h
  | calrMemAddr6 => exact execCalrMemAddr6_follows h
  | retdImm8 => exact execRetdImm8_follows h
  | intImm6 => exact execIntImm6_follows h
  | ldAMemX | ldAMemY | ldBMemX | ldBMemY => exact loadMem_follows h
  | ldAMemXInc | ldAMemYInc | ldBMemXInc | ldBMemYInc => exact loadMemInc_follows h
  | exAB => exact execExAB_follows h
  | exAMemX | exAMemY | exBMemX | exBMemY => exact exchangeMem_follows h
  | exAMemXInc | exAMemYInc | exBMemXInc | exBMemYInc => exact exchangeMemInc_follows h
  | ldMemXMemY | ldMemYMemX | ldMemXMemYInc | ldMemYMemXInc | ldMemXIncMemY | ldMemYIncMemX | ldMemXIncMemYInc
  | ldMemYIncMemXInc => exact copyMem_follows h
  | cmpAMemX | cmpAMemY | cmpBMemX | cmpBMemY => exact regMemTest_follows (.inl rfl) h
  | bitAMemX | bitAMemY | bitBMemX | bitBMemY => exact regMemTest_follows (.inr fun _ _ _ => rfl) h
  | cmpAMemXInc | cmpAMemYInc | cmpBMemXInc | cmpBMemYInc => exact regMemIncTest_follows (.inl rfl) h
  | bitAMemXInc | bitAMemYInc | bitBMemXInc | bitBMemYInc => exact regMemIncTest_follows (.inr fun _ _ _ => rfl) h
  | ldbBAMemXInc | ldbBAMemYInc => exact loadBA_follows h
  | ldbXLBA | ldbYLBA => exact putLowBA_follows h
  | ldbXHBA | ldbYHBA => exact putHighBA_follows h
  | ldbSP1BA => exact putSp1BA_follows h
  | ldbSP2BA => exact putSp2BA_follows h
  | addXBA => exact execAddXBA_follows h
  | addYBA => exact execAddYBA_follows h
  | incSP1 | decSP1 => exact stepSp1_follows h
  | incSP2 | decSP2 => exact stepSp2_follows h
  | pushA | pushB | pushF => exact pushNibble_follows h
  | popA | popB => exact popReg_follows h
  | popF => exact execPopF_follows h
  | pushX | pushY => exact pushIdx_follows h
  | popX | popY => exact popIdx_follows h
  | jrA | jrBA | jpY => exact jumpTo_follows h
  | ret => exact execRet_follows h
  | rets => exact execRets_follows h
  | reti => exact execReti_follows h
  | nop => exact execNop_follows h
  | halt => exact execHalt_follows h
  | slp => exact execSlp_follows h

end Sys2Proof.Machine
end

section
/-! O7: where the model fault `ExtMisuse` comes from (R27, R87). -/

namespace Sys2Proof.Machine

/-- A computation that can fault, but not with `ExtMisuse`. -/
def NoMisuse {α : Type} (r : Except Fault α) : Prop := ∀ a w, r ≠ .error (.extMisuse a w)

theorem NoMisuse.ok {α : Type} (a : α) : NoMisuse (.ok a) := fun _ _ h => nomatch h

theorem NoMisuse.bind {α β : Type} {r : Except Fault α} {k : α → Except Fault β} (h : NoMisuse r)
    (hk : ∀ a, NoMisuse (k a)) : NoMisuse (r >>= k) := by
  cases r with
  | ok a => exact hk a
  | error e => exact fun a w he => h a w (congrArg Except.error (Except.error.inj he))

theorem readWord_noMisuse (s : State) (a : Addr) : NoMisuse (readWord s a) := by
  unfold readWord NoMisuse
  split
  · simp
  · simp
  · split <;> simp

theorem writeWord_noMisuse (s : State) (a : Addr) (v : Nibble) : NoMisuse (writeWord s a v) := by
  unfold writeWord NoMisuse
  split <;> simp

theorem push4_noMisuse (v : Nibble) (s : State) : NoMisuse (push4 v s) := by
  unfold push4 NoMisuse
  split <;> simp

theorem pop4_noMisuse (s : State) : NoMisuse (pop4 s) := by
  unfold pop4 NoMisuse
  split
  · split <;> simp
  · simp

theorem push16_noMisuse (v : Addr) (s : State) : NoMisuse (push16 v s) := by
  unfold push16 NoMisuse
  split <;> simp

theorem setSp1_noMisuse (p : Byte) (s : State) : NoMisuse (setSp1 p s) := by
  unfold setSp1 NoMisuse
  split <;> simp

theorem pop16_noMisuse (s : State) : NoMisuse (pop16 s) := by
  unfold pop16
  split
  · simp [NoMisuse]
  · exact (setSp1_noMisuse _ _).bind fun _ => .ok _

theorem modifyAt_noMisuse (op : AluOp) (a : Addr) (y : Nibble) (s : State) : NoMisuse (modifyAt op a y s) :=
  (readWord_noMisuse _ _).bind fun _ => (writeWord_noMisuse _ _ _).bind fun _ => .ok _

theorem testAt_noMisuse (op : AluOp) (a : Addr) (y : Nibble) (s : State) : NoMisuse (testAt op a y s) :=
  (readWord_noMisuse _ _).bind fun _ => .ok _

theorem exchangeAt_noMisuse (r : Reg) (a : Addr) (s : State) : NoMisuse (exchangeAt r a s) :=
  (readWord_noMisuse _ _).bind fun _ => (writeWord_noMisuse _ _ _).bind fun _ => .ok _

theorem read2_noMisuse (a : Addr) (s : State) : NoMisuse (read2 a s) :=
  (readWord_noMisuse _ _).bind fun _ => (readWord_noMisuse _ _).bind fun _ => .ok _

theorem write2_noMisuse (a : Addr) (v : Byte) (s : State) : NoMisuse (write2 a v s) :=
  (writeWord_noMisuse _ _ _).bind fun _ => writeWord_noMisuse _ _ _

/-- The outcome of an EXT-valid instruction is that of its computation; an EXT-invalid one looks at E before it (R27). -/
inductive Gated (s : State) : Bool → Host.Outcome State Fault Refusal → Prop where
  | valid {r : Except Fault State} (hr : NoMisuse r) : Gated s true (finish r)
  | invalid {r : Except Fault State} (hr : NoMisuse r) : Gated s false (extInvalid s r)

/-- The instructions by what their computation accesses. -/
theorem exec_gated (i : Instr) (s : State) : Gated s (extValid i) (exec i s) := by
  cases i with
  | ldAImm4 | ldBImm4 | ldAA | ldAB | ldAF | ldBA | ldBB | ldFImm4 | andFImm4 | orFImm4 | xorFImm4 | ldFA | addAImm4
  | addBImm4 | adcAImm4 | adcBImm4 | subAImm4 | subBImm4 | sbcAImm4 | sbcBImm4 | adcBAN4 | sbcBAN4 | andAImm4
  | andBImm4 | orAImm4 | orBImm4 | xorAImm4 | xorBImm4 | addAA | addAB | addBA | addBB | adcAA | adcAB | adcBA
  | adcBB | subAA | subAB | subBA | subBB | sbcAA | sbcAB | sbcBA | sbcBB | andAA | andAB | andBA | andBB | orAA
  | orAB | orBA | orBB | xorAA | xorAB | xorBA | xorBB | sllA | sllB | srlA | srlB | rlA | rlB | rrA | rrB
  | cmpAImm4 | cmpBImm4 | bitAImm4 | bitBImm4 | cmpAA | cmpAB | cmpBA | cmpBB | bitAA | bitAB | bitBA | bitBB
  | ldbBAImm8 | ldbBAEXT | ldbBAXL | ldbBAXH | ldbBAYL | ldbBAYH | ldbBASP1 | ldbBASP2 | ldbEXTImm8 | ldbEXTBA
  | ldbXLBA | ldbYLBA | ldbXHBA | ldbYHBA | ldbSP2BA | incSP2 | decSP2 | exAB | addXBA | addYBA | jrA | jrBA | jpY
  | nop | halt | slp => exact .invalid (.ok _)
  | ldbXLImm8 | ldbYLImm8 | addXSign8 | addYSign8 | cmpXImm8 | cmpYImm8 | jrSign8 | jrcSign8 | jrncSign8 | jrzSign8
  | jrnzSign8 => exact .valid (r := .ok _) (.ok _)
  | ldAMemX | ldAMemY | ldBMemX | ldBMemY | adcBMemXN4 | adcBMemYN4 | sbcBMemXN4 | sbcBMemYN4 | addAMemX | addAMemY
  | addBMemX | addBMemY | adcAMemX | adcAMemY | adcBMemX | adcBMemY | subAMemX | subAMemY | subBMemX | subBMemY
  | sbcAMemX | sbcAMemY | sbcBMemX | sbcBMemY | andAMemX | andAMemY | andBMemX | andBMemY | orAMemX | orAMemY
  | orBMemX | orBMemY | xorAMemX | xorAMemY | xorBMemX | xorBMemY | cmpAMemX | cmpAMemY | cmpBMemX | cmpBMemY
  | bitAMemX | bitAMemY | bitBMemX | bitBMemY => exact .valid ((readWord_noMisuse _ _).bind fun _ => .ok _)
  | ldAMemXInc | ldAMemYInc | ldBMemXInc | ldBMemYInc | adcBMemXIncN4 | adcBMemYIncN4 | sbcBMemXIncN4
  | sbcBMemYIncN4 | addAMemXInc | addAMemYInc | addBMemXInc | addBMemYInc | adcAMemXInc | adcAMemYInc | adcBMemXInc
  | adcBMemYInc | subAMemXInc | subAMemYInc | subBMemXInc | subBMemYInc | sbcAMemXInc | sbcAMemYInc | sbcBMemXInc
  | sbcBMemYInc | andAMemXInc | andAMemYInc | andBMemXInc | andBMemYInc | orAMemXInc | orAMemYInc | orBMemXInc
  | orBMemYInc | xorAMemXInc | xorAMemYInc | xorBMemXInc | xorBMemYInc | cmpAMemXInc | cmpAMemYInc | cmpBMemXInc
  | cmpBMemYInc | bitAMemXInc | bitAMemYInc | bitBMemXInc | bitBMemYInc | jrMemAddr6 =>
    exact .invalid ((readWord_noMisuse _ _).bind fun _ => .ok _)
  | ldMemXImm4 | ldMemYImm4 | ldMemXA | ldMemXB | ldMemYA | ldMemYB =>
    exact .valid ((writeWord_noMisuse _ _ _).bind fun _ => .ok _)
  | ldMemXIncImm4 | ldMemYIncImm4 | ldMemXIncA | ldMemXIncB | ldMemYIncA | ldMemYIncB =>
    exact .invalid ((writeWord_noMisuse _ _ _).bind fun _ => .ok _)
  | addMemXImm4 | addMemYImm4 | adcMemXImm4 | adcMemYImm4 | subMemXImm4 | subMemYImm4 | sbcMemXImm4 | sbcMemYImm4
  | adcMemXBN4 | adcMemYBN4 | adcMemXZeroN4 | adcMemYZeroN4 | sbcMemXBN4 | sbcMemYBN4 | sbcMemXZeroN4
  | sbcMemYZeroN4 | incMemXN4 | incMemYN4 | decMemXN4 | decMemYN4 | andMemXImm4 | andMemYImm4 | orMemXImm4
  | orMemYImm4 | xorMemXImm4 | xorMemYImm4 | addMemXA | addMemXB | addMemYA | addMemYB | adcMemXA | adcMemXB
  | adcMemYA | adcMemYB | subMemXA | subMemXB | subMemYA | subMemYB | sbcMemXA | sbcMemXB | sbcMemYA | sbcMemYB
  | andMemXA | andMemXB | andMemYA | andMemYB | orMemXA | orMemXB | orMemYA | orMemYB | xorMemXA | xorMemXB
  | xorMemYA | xorMemYB | sllMemX | sllMemY | srlMemX | srlMemY | rlMemX | rlMemY | rrMemX | rrMemY =>
    exact .valid ((modifyAt_noMisuse _ _ _ _).bind fun _ => .ok _)
  | addMemXIncImm4 | addMemYIncImm4 | adcMemXIncImm4 | adcMemYIncImm4 | subMemXIncImm4 | subMemYIncImm4
  | sbcMemXIncImm4 | sbcMemYIncImm4 | adcMemXIncBN4 | adcMemYIncBN4 | adcMemXIncZeroN4 | adcMemYIncZeroN4
  | sbcMemXIncBN4 | sbcMemYIncBN4 | sbcMemXIncZeroN4 | sbcMemYIncZeroN4 | incMemXIncN4 | incMemYIncN4 | decMemXIncN4
  | decMemYIncN4 | andMemXIncImm4 | andMemYIncImm4 | orMemXIncImm4 | orMemYIncImm4 | xorMemXIncImm4 | xorMemYIncImm4
  | addMemXIncA | addMemXIncB | addMemYIncA | addMemYIncB | adcMemXIncA | adcMemXIncB | adcMemYIncA | adcMemYIncB
  | subMemXIncA | subMemXIncB | subMemYIncA | subMemYIncB | sbcMemXIncA | sbcMemXIncB | sbcMemYIncA | sbcMemYIncB
  | andMemXIncA | andMemXIncB | andMemYIncA | andMemYIncB | orMemXIncA | orMemXIncB | orMemYIncA | orMemYIncB
  | xorMemXIncA | xorMemXIncB | xorMemYIncA | xorMemYIncB | sllMemXInc | sllMemYInc | srlMemXInc | srlMemYInc
  | rlMemXInc | rlMemYInc | rrMemXInc | rrMemYInc | incMemAddr6 | decMemAddr6 | clrMem00Addr6Imm2
  | clrMemFFAddr6Imm2 | setMem00Addr6Imm2 | setMemFFAddr6Imm2 =>
    exact .invalid ((modifyAt_noMisuse _ _ _ _).bind fun _ => .ok _)
  | cmpMemXImm4 | cmpMemYImm4 | bitMemXImm4 | bitMemYImm4 | cmpMemXA | cmpMemXB | cmpMemYA | cmpMemYB | bitMemXA
  | bitMemXB | bitMemYA | bitMemYB => exact .valid ((testAt_noMisuse _ _ _ _).bind fun _ => .ok _)
  | cmpMemXIncImm4 | cmpMemYIncImm4 | bitMemXIncImm4 | bitMemYIncImm4 | cmpMemXIncA | cmpMemXIncB | cmpMemYIncA
  | cmpMemYIncB | bitMemXIncA | bitMemXIncB | bitMemYIncA | bitMemYIncB | tstMem00Addr6Imm2 | tstMemFFAddr6Imm2 =>
    exact .invalid ((testAt_noMisuse _ _ _ _).bind fun _ => .ok _)
  | exAMemX | exAMemY | exBMemX | exBMemY => exact .valid ((exchangeAt_noMisuse _ _ _).bind fun _ => .ok _)
  | exAMemXInc | exAMemYInc | exBMemXInc | exBMemYInc =>
    exact .invalid ((exchangeAt_noMisuse _ _ _).bind fun _ => .ok _)
  | ldMemXMemY | ldMemYMemX | ldMemXMemYInc | ldMemYMemXInc | ldMemXIncMemY | ldMemYIncMemX | ldMemXIncMemYInc
  | ldMemYIncMemXInc =>
    exact .invalid ((readWord_noMisuse _ _).bind fun _ => (writeWord_noMisuse _ _ _).bind fun _ => .ok _)
  | ldbBAMemXInc | ldbBAMemYInc => exact .invalid ((read2_noMisuse _ _).bind fun _ => .ok _)
  | ldbMemXIncImm8 | ldbMemXIncBA | ldbMemYIncBA => exact .invalid ((write2_noMisuse _ _ _).bind fun _ => .ok _)
  | ldbSP1BA | incSP1 | decSP1 => exact .invalid ((setSp1_noMisuse _ _).bind fun _ => .ok _)
  | pushA | pushB | pushF => exact .invalid ((push4_noMisuse _ _).bind fun _ => .ok _)
  | popA | popB | popF => exact .invalid ((pop4_noMisuse _).bind fun _ => .ok _)
  | pushX | pushY | calzImm8 => exact .invalid ((push16_noMisuse _ _).bind fun _ => .ok _)
  | calrSign8 => exact .valid ((push16_noMisuse _ _).bind fun _ => .ok _)
  | calrMemAddr6 => exact .invalid ((push16_noMisuse _ _).bind fun _ => (readWord_noMisuse _ _).bind fun _ => .ok _)
  | popX | popY | ret | rets => exact .invalid ((pop16_noMisuse _).bind fun _ => .ok _)
  | retdImm8 => exact .invalid ((pop16_noMisuse _).bind fun _ => (write2_noMisuse _ _ _).bind fun _ => .ok _)
  | reti => exact .invalid ((pop16_noMisuse _).bind fun _ => (pop4_noMisuse _).bind fun _ => .ok _)
  | intImm6 => exact .invalid (((push4_noMisuse _ _).bind fun _ => push16_noMisuse _ _).bind fun _ => .ok _)

theorem Gated.misuse {s : State} {b : Bool} {o : Host.Outcome State Fault Refusal} (h : Gated s b o)
    (hE : flagE s.f = true) (hb : b = false) : o = .fault (.extMisuse s.pc (Cells.lookup s.prog s.pc.toNat)) := by
  cases h with
  | valid => cases hb
  | invalid => exact extInvalid_on _ hE

theorem Gated.of_misuse {s : State} {b : Bool} {o : Host.Outcome State Fault Refusal} {a : Addr} {w : Option PWord}
    (h : Gated s b o) (ho : o = .fault (.extMisuse a w)) : flagE s.f = true ∧ b = false := by
  cases h with
  | valid hr => exact absurd (finish_fault.1 ho) (hr a w)
  | invalid hr =>
    cases hE : flagE s.f with
    | true => exact ⟨rfl, rfl⟩
    | false =>
      rw [extInvalid_off _ hE, finish_fault] at ho
      exact absurd ho (hr a w)

/-! ### The step from a quiet boundary -/

theorem accepted_none_of_held {s : State} (h : s.nmiPending = true → s.pairMask = .pairSet → s.defer = true) :
    accepted none s = none := by
  cases ha : accepted none s with
  | none => rfl
  | some r =>
    obtain ⟨ho, ⟨hn, -⟩ | ⟨-, -, v, hv, -⟩⟩ := accepted_some ha
    · obtain ⟨hp, hd⟩ : s.pairMask = .pairSet ∧ s.defer = false := by simpa [boundaryOpen] using ho
      rw [h hn hp] at hd
      cases hd
    · cases hv

theorem fetch_ok {s : State} {w : PWord} (h : fetch s = .ok w) :
    s.pc.toNat < s.cfg.romWords ∧ Cells.lookup s.prog s.pc.toNat = some w := by
  unfold fetch at h
  split at h
  · split at h
    · cases h
      exact ⟨‹_›, ‹_›⟩
    · cases h
  · cases h

/-- A boundary whose input the core can pass by goes on with the instruction (R307). -/
theorem atBoundary_run {i : BoundaryInput} {run : State → Host.Outcome State Fault Refusal} {s : State}
    (hi : inputRefusal s.cfg i = none) (hr : i.reset = false) (hacc : accepted (irqLine i s) (latchNmi i s) = none)
    (hrun : s.run = .run) : atBoundary i run s = run (latchNmi i s) := by
  simp [atBoundary, hi, hr, hacc, hrun]

/-- A boundary that holds nothing goes on with the instruction at PC (R93, R307). -/
theorem step_of_quiet {s : State} (h : QuietBoundary s) : step s = runInstruction (afterInput s) := by
  obtain ⟨hrun, hin, hnmi⟩ := h
  have hb : boundary runInstruction s = atBoundary quietInput runInstruction s.takeInput := by
    obtain hin | ⟨rest, hin⟩ := hin
    · exact boundary_nil hin (.inl hrun)
    · exact boundary_cons hin
  have hacc : accepted none (latchNmi quietInput s.takeInput) = none := by
    rw [latchNmi_quiet]
    exact accepted_none_of_held hnmi
  rw [step, hb, atBoundary_run rfl rfl hacc hrun, latchNmi_quiet]
  rfl

theorem runInstruction_of_decode {s : State} {w : PWord} {i : Instr} (hf : fetch s = .ok w) (hd : decode w = some i) :
    runInstruction s = exec i s := by
  simp [runInstruction, hf, hd]

/-- Settles O7, by what gates an instruction's computation. -/
theorem extMisuseExactly : Obligations.ExtMisuseExactly := by
  refine ⟨fun i s hE hv => (exec_gated i s).misuse hE hv, fun i s a w h => (exec_gated i s).of_misuse h, ?_⟩
  intro s w i hq hf hd hE hv
  have hfault := (exec_gated i (afterInput s)).misuse hE hv
  have hw : Cells.lookup (afterInput s).prog (afterInput s).pc.toNat = some w := (fetch_ok hf).2
  have hf' : fetch (afterInput s) = .ok w := hf
  rw [step_of_quiet hq, runInstruction_of_decode hf' hd, hfault, hw]
  rfl

end Sys2Proof.Machine
end

section
/-! The ends of an instruction in the vocabulary of the statements, and when the stack operations succeed (R30, R57,
R381). -/

namespace Sys2Proof.Machine

/-! ### The ends of an instruction -/

theorem retire_eq_endedSameCZ (s : State) (n : Nat) : s.retire n = endedSameCZ s n (nextPc s) := rfl

theorem retire_setCZ (s : State) (n : Nat) (c z : Bool) : (s.setCZ c z).retire n = ended s n (nextPc s) c z := by
  have hf : withE (withCZ s.f c z) false = packF false (flagI s.f) c z := by simp [withE]
  simp only [State.retire, State.retireTo, setCZ_f, hf]
  rfl

theorem retire_setZ (s : State) (n : Nat) (z : Bool) : (s.setZ z).retire n = ended s n (nextPc s) (flagC s.f) z :=
  retire_setCZ s n (flagC s.f) z

/-! ### The stacks, where the slots are there -/

theorem push4_iff {s t : State} {v : Nibble} : push4 v s = .ok t ↔
    kindAt s.cfg (eaSp2 (s.sp2 - 1#8)) = some .ram ∧ t = pushed4 s v := push4_ok

theorem pop4_iff {s t : State} {v : Nibble} : pop4 s = .ok (v, t) ↔
    kindAt s.cfg (eaSp2 s.sp2) = some .ram ∧ wordAt s (eaSp2 s.sp2).toNat = some v ∧ t = popped4 s := pop4_ok

theorem push16_iff {s t : State} {v : Addr} : push16 v s = .ok t ↔
    inRam16 s.cfg (eaSp1 (s.sp1 - 1#8)) = true ∧ t = pushed16 s v := push16_ok

theorem pop16_iff {s t : State} {v : Addr} : pop16 s = .ok (v, t) ↔
    s.q = some v ∧ inRam16 s.cfg (eaSp1 (s.sp1 + 1#8)) = true ∧ t = popped16 s := by
  rw [pop16_ok, setSp1_ok]
  rfl

/-- A pop of an unwritten Q is `UndefinedRead(Q)` (R358, D14). -/
theorem pop16_undefined {s : State} (h : s.q = none) : pop16 s = .error .undefinedQueue := by simp [pop16, h]

/-- An interrupt saves F below SP2 first, the return address below SP1 after it (R57). -/
theorem saveContext_iff {s t : State} {ret : Addr} : saveContext ret s = .ok t ↔
    kindAt s.cfg (eaSp2 (s.sp2 - 1#8)) = some .ram ∧ inRam16 s.cfg (eaSp1 (s.sp1 - 1#8)) = true ∧
      t = pushed16 (pushed4 s s.f) ret := by
  rw [saveContext_ok]
  constructor
  · rintro ⟨s1, h4, h16⟩
    obtain ⟨hk, rfl⟩ := push4_iff.1 h4
    obtain ⟨hin, rfl⟩ := push16_iff.1 h16
    exact ⟨hk, hin, rfl⟩
  · rintro ⟨hk, hin, rfl⟩
    exact ⟨pushed4 s s.f, push4_iff.2 ⟨hk, rfl⟩, push16_iff.2 ⟨hin, rfl⟩⟩

/-- `INT imm6` completes exactly where both of its slots are there (R398). -/
theorem intImm6_next_iff {n : BitVec 6} {s t : State} : exec (.intImm6 n) s = .next t ↔
    flagE s.f = false ∧ kindAt s.cfg (eaSp2 (s.sp2 - 1#8)) = some .ram ∧
      inRam16 s.cfg (eaSp1 (s.sp1 - 1#8)) = true ∧
      t = endedSameCZ (pushed16 (pushed4 s s.f) (nextPc s)) 3 (0x0100#16 + n.setWidth 16) := by
  refine execIntImm6_next.trans ⟨?_, ?_⟩
  · rintro ⟨hE, s1, hs, rfl⟩
    obtain ⟨hk, hin, rfl⟩ := saveContext_iff.1 hs
    exact ⟨hE, hk, hin, rfl⟩
  · rintro ⟨hE, hk, hin, rfl⟩
    exact ⟨hE, _, saveContext_iff.2 ⟨hk, hin, rfl⟩, rfl⟩

/-- The saved F is read back where it does not lie in the entry that holds the saved address (R57). -/
theorem saveContext_savedF {s t : State} {ret : Addr} (h : saveContext ret s = .ok t)
    (hno : eaSp2 (s.sp2 - 1#8) ∉ entry16 (s.sp1 - 1#8)) : wordAt t (eaSp2 t.sp2).toNat = some s.f := by
  obtain ⟨-, -, rfl⟩ := saveContext_iff.1 h
  have hne : ∀ a ∈ entry16 (s.sp1 - 1#8), a.toNat ≠ (eaSp2 (s.sp2 - 1#8)).toNat :=
    fun a ha he => hno (BitVec.eq_of_toNat_eq he ▸ ha)
  exact (lookup_insert16_entry _ ret hne).trans (lookup_insert_same _ _ _)

end Sys2Proof.Machine
end

section
/-! What the instructions keep and how they end, as statements over all of them: O9, O10, O11, O12, O13, O14, O15. -/

namespace Sys2Proof.Machine

/-! ### The program counter -/

theorem jumpCond_next {c : JumpCond} {d : Byte} {s t : State} (h : exec (c.instr d) s = .next t) :
    t = s.retireTo 1 (if c.holds s.f then branchTarget s (signOperand s d) else s.pc + 1#16) := by
  cases c with
  | always | carry | noCarry | zero | notZero => exact jumpIf_next.1 h

/-- A displacement read from data memory is the word that stands there afterwards, an I/O word apart (R385, R393). -/
theorem readWord_displacement {s s1 : State} {a : Addr} {v : Nibble} (h : readWord s a = .ok (v, s1))
    (hk : kindAt s.cfg a ≠ some .io) : wordAt s1 a.toNat = some v := by
  obtain ⟨-, hv, rfl⟩ | ⟨hio, -, -⟩ := readWord_ok h
  · exact hv
  · exact absurd hio hk

theorem Page.address_low (a : BitVec 6) : Page.low.address a = ea00 a := by simp [Page.address, ea00]

/-- Settles O9: the next address by the tables, each transfer by what it does. -/
theorem programCounterAdvance : Obligations.ProgramCounterAdvance := by
  refine ⟨fun i s t h hj => (exec_follows h).pc hj, fun c d s t h => ?_, fun s t d h => ?_, fun s t i h => ?_,
    fun s t n h => ?_, fun s t b h => ?_, fun s t h => ?_, fun s t h => ?_, fun s t h => ?_, fun s t h => ?_,
    fun s t a h => ?_⟩
  · rw [jumpCond_next h]
    rfl
  · obtain ⟨s1, -, rfl⟩ := execCalrSign8_next.1 h
    rfl
  · obtain ⟨-, s1, -, rfl⟩ := execCalzImm8_next.1 h
    rfl
  · obtain ⟨-, -, -, rfl⟩ := intImm6_next_iff.1 h
    rfl
  · obtain h | h | h := h
    · obtain ⟨-, ret, s1, hp, rfl⟩ := execRet_next.1 h
      exact (pop16_iff.1 hp).1
    · obtain ⟨ret, s1, v, s2, hp, -, rfl⟩ := returnFromInterrupt_ok.1 (execReti_next.1 h).2
      exact (pop16_iff.1 hp).1
    · obtain ⟨-, ret, s1, s2, hp, -, rfl⟩ := execRetdImm8_next.1 h
      exact (pop16_iff.1 hp).1
  · obtain ⟨-, ret, s1, hp, rfl⟩ := execRets_next.1 h
    simpa using (pop16_iff.1 hp).1
  · obtain ⟨-, rfl⟩ := jumpTo_next.1 h
    rfl
  · obtain ⟨-, rfl⟩ := jumpTo_next.1 h
    rfl
  · obtain ⟨-, rfl⟩ := jumpTo_next.1 h
    rfl
  · obtain h | h := h
    · obtain ⟨-, v, s1, hr, rfl⟩ := execJrMemAddr6_next.1 h
      have hw := readWord_displacement hr
      rw [Page.address_low]
      exact ⟨v, rfl, hw⟩
    · obtain ⟨-, s1, v, s2, hp, hr, rfl⟩ := execCalrMemAddr6_next.1 h
      obtain ⟨-, rfl⟩ := push16_iff.1 hp
      have hw := readWord_displacement hr
      rw [Page.address_low]
      exact ⟨v, rfl, hw⟩

/-! ### The extension flag -/

theorem eaInd_plain {s : State} (k : Idx) (hE : flagE s.f = false) : eaInd s k = s.idx k := by simp [eaInd, hE]

theorem eaInd_x_extended {s : State} (hE : flagE s.f = true) : eaInd s .x = 0x00#8 ++ s.ext := by simp [eaInd, hE]

theorem eaInd_y_extended {s : State} (hE : flagE s.f = true) : eaInd s .y = 0xFF#8 ++ s.ext := by simp [eaInd, hE]

theorem putF_leftF {v : Nibble} {s t : State} (h : putF v s = .next t) : t.f = v := by
  obtain ⟨-, rfl⟩ := putF_next.1 h
  rfl

/-- What `POP %F` and `RETI` leave in F is the word SP2 points to (R293, R397). -/
theorem popped_leftF {s t : State} (h : exec .popF s = .next t ∨ exec .reti s = .next t) :
    wordAt s s.sp2.toNat = some t.f := by
  obtain h | h := h
  · obtain ⟨-, v, s1, hp, rfl⟩ := execPopF_next.1 h
    obtain ⟨-, hv, -⟩ := pop4_iff.1 hp
    rwa [eaSp2_toNat] at hv
  · obtain ⟨ret, s1, v, s2, hp, hf, rfl⟩ := returnFromInterrupt_ok.1 (execReti_next.1 h).2
    obtain ⟨-, -, rfl⟩ := pop16_iff.1 hp
    obtain ⟨-, hv, -⟩ := pop4_iff.1 hf
    rwa [eaSp2_toNat] at hv

theorem putLow_extended {k : Idx} {i : Byte} {s : State} (h : flagE s.f = true) :
    exec (ldbLowImm k i) s = .next (endedSameCZ (s.setIdx k (s.ext ++ i)) 1 (nextPc s)) := by
  have hput : putLow k i s = .next (endedSameCZ (s.setIdx k (s.ext ++ i)) 1 (nextPc s)) := by
    simp [putLow_next, h, retire_eq_endedSameCZ, nextPc]
  cases k with
  | x | y => exact hput

/-- An interrupt entry or `INT` leaves the F it found in the word SP2 points to (R24, R57). -/
theorem entry_savedF {s t : State} (hno : eaSp2 (s.sp2 - 1#8) ∉ entry16 (s.sp1 - 1#8))
    (h : (∃ v, enterInterrupt v s = .ok t) ∨ ∃ n, exec (.intImm6 n) s = .next t) :
    wordAt t (eaSp2 t.sp2).toNat = some s.f := by
  obtain ⟨v, h⟩ | ⟨n, h⟩ := h
  · obtain ⟨s1, hs, rfl⟩ := enterInterrupt_ok.1 h
    have hw := saveContext_savedF hs hno
    exact hw
  · obtain ⟨-, s1, hs, rfl⟩ := execIntImm6_next.1 h
    have hw := saveContext_savedF hs hno
    exact hw

theorem enterInterrupt_flags {v : Nibble} {s t : State} (h : enterInterrupt v s = .ok t) :
    flagE t.f = false ∧ flagI t.f = false ∧ t.inReset = s.inReset := by
  obtain ⟨s1, hs, rfl⟩ := enterInterrupt_ok.1 h
  obtain ⟨-, -, rfl⟩ := saveContext_iff.1 hs
  simp [pushed16, pushed4]

/-- An accepted interrupt finds the boundary open and leaves E = 0 (R33, R306, R310). -/
theorem accepted_flags {irq : Option Nibble} {s t : State} (h : accepted irq s = some (.ok t)) :
    s.pairMask = .pairSet ∧ s.defer = false ∧ flagE t.f = false ∧ t.inReset = s.inReset := by
  obtain ⟨ho, hentry⟩ := accepted_some h
  obtain ⟨hp, hd⟩ : s.pairMask = .pairSet ∧ s.defer = false := by simpa [boundaryOpen] using ho
  obtain ⟨-, hn⟩ | ⟨-, -, v, -, hq⟩ := hentry
  · obtain ⟨he, -, hr⟩ := enterInterrupt_flags hn.symm
    exact ⟨hp, hd, he, hr⟩
  · obtain ⟨he, -, hr⟩ := enterInterrupt_flags hq.symm
    exact ⟨hp, hd, he, hr⟩

theorem resetEvent_f (s : State) : (resetEvent s).f = 0#4 := rfl

/-- Settles O10: E after every instruction by the tables, and who reads and saves it. -/
theorem extensionFlagIsConsumed : Obligations.ExtensionFlagIsConsumed := by
  refine ⟨fun i s t h hf => (exec_follows h).leftE hf, fun s t v h => ?_, fun s t v => ⟨?_, ?_, ?_, ?_, ?_, ?_⟩,
    fun s => ⟨fun k hE => eaInd_plain k hE, fun hE => ⟨eaInd_x_extended hE, eaInd_y_extended hE,
      fun i => ⟨?_, ?_, fun k => putLow_extended hE⟩⟩⟩,
    fun s t hno h => entry_savedF hno h, fun irq s t hE h => ?_, fun s => congrArg flagE (resetEvent_f s), rfl⟩
  · obtain h | h := h
    · exact (exec_follows h).leftE rfl
    · exact (exec_follows h).leftE rfl
  · exact fun h => congrArg flagE (putF_leftF h)
  · exact fun h => congrArg flagE (putF_leftF h)
  · exact fun h => (congrArg flagE (putF_leftF h)).trans (by simp [flagE])
  · exact fun h => (congrArg flagE (putF_leftF h)).trans (by simp [flagE])
  · exact fun h => (congrArg flagE (putF_leftF h)).trans (by simp [flagE])
  · exact fun h => ⟨t.f, popped_leftF h, rfl⟩
  · simp [signOperand, hE]
  · simp [cmpOperand, hE]
  · obtain ⟨-, hd, he, -⟩ := accepted_flags h
    cases hs : flagE s.f with
    | false => exact he
    | true =>
      rw [hE hs] at hd
      cases hd

/-! ### `defer`, the pair mask, the I flag -/

theorem accepted_none_of_closed {irq : Option Nibble} {s : State} (h : boundaryOpen s = false) : accepted irq s = none := by
  simp [accepted, h]

/-- Settles O11: `defer` after every instruction by the tables. -/
theorem deferralMarker : Obligations.DeferralMarker :=
  ⟨fun _ _ _ h => (exec_follows h).defer,
    fun _ _ h => accepted_none_of_closed (by simp [boundaryOpen, h]), fun _ => rfl, rfl⟩

theorem pairMaskAfter_unset_or_set {m : PairMask} (p : StackPtr) (h : m = .bothUnset ∨ m = .pairSet) :
    pairMaskAfter m p = .oneSet p := by
  obtain rfl | rfl := h
  · rfl
  · rfl

theorem pairMaskAfter_oneSet (w p : StackPtr) :
    pairMaskAfter (.oneSet w) p = if w = p then .oneSet w else .pairSet := rfl

/-- Settles O12: the mask after every instruction by the tables. -/
theorem pairMaskTransitions : Obligations.PairMaskTransitions := by
  have hafter : ∀ {i : Instr} {s t : State}, exec i s = .next t →
      t.pairMask = (setsPointer i).elim s.pairMask (pairMaskAfter s.pairMask) := fun h => (exec_follows h).pairMask
  refine ⟨fun i s t h hp => ?_, fun i s t p h hp => ?_, fun s => rfl, rfl, fun irq s hm => ?_, fun v s t m h => ?_⟩
  · simpa [hp] using hafter h
  · have hmask : t.pairMask = pairMaskAfter s.pairMask p := by simpa [hp] using hafter h
    refine ⟨fun hs => ?_, fun hs => ?_, fun q hq hs => ?_⟩
    · rw [hmask, pairMaskAfter_unset_or_set p hs]
    · rw [hmask, hs, pairMaskAfter_oneSet, if_pos rfl]
    · rw [hmask, hs, pairMaskAfter_oneSet, if_neg hq]
  · exact accepted_none_of_closed (by simp [boundaryOpen, hm])
  · obtain ⟨hE, hk, hin, rfl⟩ := intImm6_next_iff.1 h
    exact intImm6_next_iff.2 ⟨hE, hk, hin, rfl⟩

/-- Settles O13: I after every instruction by the tables, and where acceptance and `INT` look at it. -/
theorem interruptFlag : Obligations.InterruptFlag := by
  refine ⟨fun i s t h hf => (exec_follows h).keptI hf, fun v s t h => (enterInterrupt_flags h).2.1,
    fun s => congrArg flagI (resetEvent_f s),
    fun irq s hI hn => ?_, fun v s hp hd hn hI => ?_, fun s hp hd hn => ?_, fun v s t b h => ?_, fun s => rfl⟩
  · cases ha : accepted irq s with
    | none => rfl
    | some r =>
      obtain ⟨-, ⟨hn', -⟩ | ⟨-, hI', -⟩⟩ := accepted_some ha
      · rw [hn] at hn'
        cases hn'
      · rw [hI] at hI'
        cases hI'
  · simp [accepted, boundaryOpen, hp, hd, hn, hI]
  · simp [accepted, boundaryOpen, hp, hd, hn]
  · refine ⟨(exec_follows h).keptI rfl, ?_⟩
    obtain ⟨hE, hk, hin, -⟩ := intImm6_next_iff.1 h
    have hrun := (intImm6_next_iff (n := v) (s := { s with f := withI s.f b })).2
      ⟨(flagE_withI s.f b).trans hE, hk, hin, rfl⟩
    exact ⟨_, hrun, ((exec_follows hrun).keptI rfl).trans (flagI_withI s.f b)⟩

/-! ### C, Z and the registers -/

/-- Settles O14 by the tables of R20 and R21. -/
theorem carryAndZeroFrame : Obligations.CarryAndZeroFrame :=
  fun _ _ _ h => ⟨(exec_follows h).keptC, (exec_follows h).keptZ⟩

/-- Settles O15 by the table of written registers. -/
theorem registerFrame : Obligations.RegisterFrame := fun _ _ _ h => (exec_follows h).regs

end Sys2Proof.Machine
end

section
/-! Q and the entry SP1 points to: O59 (R30). -/

namespace Sys2Proof.Machine

/-- Q holds the entry SP1 points to; it is unwritten where the entry is (R30, R358). -/
def TopEntry (s : State) : Prop := s.q = lookup16 s.mem (eaSp1 s.sp1).toNat

theorem push16_topEntry {v : Addr} {s t : State} (h : push16 v s = .ok t) : TopEntry t := by
  obtain ⟨-, rfl⟩ := push16_iff.1 h
  exact (lookup16_insert16 _ _ _).symm

theorem setSp1_topEntry {p : Byte} {s t : State} (h : setSp1 p s = .ok t) : TopEntry t := by
  obtain ⟨-, rfl⟩ := setSp1_ok.1 h
  rfl

theorem pop16_topEntry {v : Addr} {s t : State} (h : pop16 s = .ok (v, t)) : TopEntry t :=
  setSp1_topEntry (pop16_ok.1 h).2

/-- What changes none of Q, SP1 and memory keeps the top entry in Q. -/
theorem TopEntry.of_eq {s t : State} (h : TopEntry s) (hq : t.q = s.q) (hsp : t.sp1 = s.sp1) (hm : t.mem = s.mem) :
    TopEntry t := by
  rw [TopEntry, hq, hsp, hm]
  exact h

theorem pushIdx_topEntry {i : Idx} {s t : State} (h : pushIdx i s = .next t) : TopEntry t := by
  obtain ⟨-, s1, hp, rfl⟩ := pushIdx_next.1 h
  exact (push16_topEntry hp).of_eq rfl rfl rfl

theorem popIdx_topEntry {i : Idx} {s t : State} (h : popIdx i s = .next t) : TopEntry t := by
  obtain ⟨-, v, s1, hp, rfl⟩ := popIdx_next.1 h
  exact (pop16_topEntry hp).of_eq (by simp) (by simp) (by simp)

theorem stepSp1_topEntry {p : Byte} {s t : State} (h : stepSp1 p s = .next t) : TopEntry t := by
  obtain ⟨-, s1, hsp, rfl⟩ := stepSp1_next.1 h
  exact (setSp1_topEntry hsp).of_eq rfl rfl rfl

/-- The instructions that move SP1, each by its last access to the SP1 stack; `RETD` alone stores after it (R30). -/
theorem exec_topEntry {i : Instr} {s t : State} (h : exec i s = .next t) (hq : .q ∈ writtenRegs i)
    (hd : ∀ b, i ≠ .retdImm8 b) : TopEntry t := by
  cases i with
  | calzImm8 =>
    obtain ⟨-, s1, hp, rfl⟩ := execCalzImm8_next.1 h
    exact (push16_topEntry hp).of_eq rfl rfl rfl
  | calrSign8 =>
    obtain ⟨s1, hp, rfl⟩ := execCalrSign8_next.1 h
    exact (push16_topEntry hp).of_eq rfl rfl rfl
  | calrMemAddr6 =>
    obtain ⟨-, s1, v, s2, hp, hr, rfl⟩ := execCalrMemAddr6_next.1 h
    obtain ⟨hcore, hmem⟩ := readWord_sameCore hr
    exact (push16_topEntry hp).of_eq hcore.q hcore.sp1 hmem
  | pushX | pushY => exact pushIdx_topEntry h
  | popX | popY => exact popIdx_topEntry h
  | incSP1 | decSP1 => exact stepSp1_topEntry h
  | ldbSP1BA =>
    obtain ⟨-, s1, hsp, rfl⟩ := putSp1BA_next.1 h
    exact (setSp1_topEntry hsp).of_eq rfl rfl rfl
  | ret =>
    obtain ⟨-, v, s1, hp, rfl⟩ := execRet_next.1 h
    exact (pop16_topEntry hp).of_eq rfl rfl rfl
  | rets =>
    obtain ⟨-, v, s1, hp, rfl⟩ := execRets_next.1 h
    exact (pop16_topEntry hp).of_eq rfl rfl rfl
  | reti =>
    obtain ⟨v, s1, w, s2, hp, hf, rfl⟩ := returnFromInterrupt_ok.1 (execReti_next.1 h).2
    obtain ⟨-, -, rfl⟩ := pop4_iff.1 hf
    exact (pop16_topEntry hp).of_eq rfl rfl rfl
  | intImm6 =>
    obtain ⟨-, s1, hs, rfl⟩ := execIntImm6_next.1 h
    obtain ⟨s0, -, hp⟩ := saveContext_ok.1 hs
    exact (push16_topEntry hp).of_eq rfl rfl rfl
  | retdImm8 b => exact absurd rfl (hd b)
  | _ => nomatch hq

/-- SP1 moves with Q and not without it. -/
theorem contains_sp1_eq_contains_q (i : Instr) : (writtenRegs i).contains .sp1 = (writtenRegs i).contains .q := by
  cases i <;> rfl

theorem sp1_notMem_of_q_notMem {i : Instr} (h : .q ∉ writtenRegs i) : .sp1 ∉ writtenRegs i := by
  intro hsp
  have hc := contains_sp1_eq_contains_q i
  rw [List.contains_iff_mem.2 hsp] at hc
  exact h (List.contains_iff_mem.1 hc.symm)

/-- A 16-bit read depends on its four words alone. -/
theorem lookup16_congr {m m' : Memory} {a : Nat}
    (h : ∀ n, a ≤ n → n ≤ a + 3 → Cells.lookup m' n = Cells.lookup m n) : lookup16 m' a = lookup16 m a := by
  simp only [lookup16, h a (by omega) (by omega), h (a + 1) (by omega) (by omega), h (a + 2) (by omega) (by omega),
    h (a + 3) (by omega) (by omega)]

/-- An instruction that stores outside an SP1 entry leaves what is read there as it was. -/
theorem exec_lookup16_entry {i : Instr} {s t : State} {p : Byte} (h : exec i s = .next t)
    (hst : ∀ a ∈ storedAddresses i s, a ∉ entry16 p) :
    lookup16 t.mem (eaSp1 p).toNat = lookup16 s.mem (eaSp1 p).toNat := by
  refine lookup16_congr fun n hlo hhi => (exec_follows h).mem n fun a ha han => ?_
  obtain ⟨b, hb, hbn⟩ := toNat_mem_entry16 hlo hhi
  have hab : a = b := BitVec.eq_of_toNat_eq (han.trans hbn.symm)
  exact hst a ha (hab ▸ hb)

/-- Settles O59: who moves SP1 refills Q, who does not keeps both. -/
theorem queueHoldsTheTopEntry : Obligations.QueueHoldsTheTopEntry := by
  have hkept : ∀ {i : Instr} {s t : State}, exec i s = .next t → .q ∉ writtenRegs i → t.q = s.q ∧ t.sp1 = s.sp1 :=
    fun h hq => ⟨(exec_follows h).regs .q hq, (exec_follows h).regs .sp1 (sp1_notMem_of_q_notMem hq)⟩
  refine ⟨fun i s t h hq hd => exec_topEntry h hq hd, fun i s t h hq => hkept h hq, fun i s t h hq hst htop => ?_,
    fun b s t h => ?_⟩
  · obtain ⟨htq, hsp⟩ := hkept h hq
    rw [htq, hsp, exec_lookup16_entry h hst]
    exact htop
  · obtain ⟨-, v, s1, s2, hp, hw, rfl⟩ := execRetdImm8_next.1 h
    obtain ⟨-, -, rfl⟩ := pop16_iff.1 hp
    obtain ⟨s3, hlo, hhi⟩ := write2_ok.1 hw
    have hq : s2.q = (popped16 s).q := (writeWord_sameCore hhi).q.trans (writeWord_sameCore hlo).q
    have hsp : s2.sp1 = (popped16 s).sp1 := (writeWord_sameCore hhi).sp1.trans (writeWord_sameCore hlo).sp1
    simp only [retireTo_q, bump_q, retireTo_sp1, bump_sp1, hq, hsp]
    rfl

end Sys2Proof.Machine
end

section
/-! The forms of the stacks, the stack pointers and F, and that they complete: O34, O40, O43, O47, O48, O57. -/

namespace Sys2Proof.Machine

/-! ### F and the 16-bit entries -/

theorem putF_completes {s : State} (v : Nibble) (hE : flagE s.f = false) :
    putF v s = .next (endedWithF s 1 (nextPc s) v) := putF_next.2 ⟨hE, rfl⟩

/-- Settles O34: five of the six are `putF` of the value they compute. -/
theorem flagWritingForms : Obligations.FlagWritingForms := by
  intro s hE
  refine ⟨putF_completes _ hE, fun i => ⟨putF_completes _ hE, putF_completes _ hE, putF_completes _ hE,
    putF_completes _ hE⟩, fun v hk hv => ?_⟩
  exact execPopF_next.2 ⟨hE, v, _, pop4_iff.2 ⟨hk, hv, rfl⟩, rfl⟩

/-- Settles O57, by the laws of a 16-bit write at the entry `4 * SP1`. -/
theorem sixteenBitEntries : Obligations.SixteenBitEntries := by
  intro s v p
  have hea : (eaSp1 (s.sp1 - 1#8)).toNat = 4 * (s.sp1 - 1#8).toNat := by rw [eaSp1_toNat, Nat.mul_comm]
  refine ⟨by rw [eaSp1_toNat, Nat.mul_comm], eaSp2_toNat p, fun a => inRam16_iff, fun h => push16_iff.2 ⟨h, rfl⟩,
    fun k hk => ?_, lookup16_insert16 _ _ _, fun n hn => ?_, fun h => ?_, fun h => ?_⟩
  · rw [← hea]
    exact lookup_insert16_digit _ _ _ k hk
  · exact lookup_insert16_other _ _ _ _ (by omega)
  · simp [push16, h]
  · simp [setSp1, h]

/-! ### The stack pointers -/

theorem pairMaskAfter_sp1 (m : PairMask) :
    pairMaskAfter m .sp1 = if m = .oneSet .sp2 then .pairSet else .oneSet .sp1 := by
  cases m with
  | bothUnset | pairSet => rfl
  | oneSet w =>
    cases w with
    | sp1 | sp2 => rfl

theorem pairMaskAfter_sp2 (m : PairMask) :
    pairMaskAfter m .sp2 = if m = .oneSet .sp1 then .pairSet else .oneSet .sp2 := by
  cases m with
  | bothUnset | pairSet => rfl
  | oneSet w =>
    cases w with
    | sp1 | sp2 => rfl

theorem stepSp1_completes {s : State} {p : Byte} (hE : flagE s.f = false) (hin : inRam16 s.cfg (eaSp1 p) = true) :
    stepSp1 p s = .next (ended { s with sp1 := p, q := lookup16 s.mem (eaSp1 p).toNat } 1 (nextPc s) (flagC s.f)
      (decide (p = 0#8))) :=
  stepSp1_next.2 ⟨hE, _, setSp1_ok.2 ⟨hin, rfl⟩, (retire_setZ _ _ _).symm⟩

theorem stepSp2_completes {s : State} (p : Byte) (hE : flagE s.f = false) :
    stepSp2 p s = .next (ended { s with sp2 := p } 1 (nextPc s) (flagC s.f) (decide (p = 0#8))) :=
  stepSp2_next.2 ⟨hE, (retire_setZ _ _ _).symm⟩

/-- Settles O40, each form where SP1 may move there. -/
theorem stackPointerForms : Obligations.StackPointerForms := by
  intro s hE
  refine ⟨fun hin => ?_, ?_, fun hin => stepSp1_completes hE hin, fun hin => stepSp1_completes hE hin,
    stepSp2_completes _ hE, stepSp2_completes _ hE⟩
  · rw [← pairMaskAfter_sp1]
    exact putSp1BA_next.2 ⟨hE, _, setSp1_ok.2 ⟨hin, rfl⟩, rfl⟩
  · rw [← pairMaskAfter_sp2]
    exact putSp2BA_next.2 ⟨hE, rfl⟩

/-! ### PUSH and POP of X and Y -/

theorem pushIdx_completes {s : State} (k : Idx) (hE : flagE s.f = false)
    (hin : inRam16 s.cfg (eaSp1 (s.sp1 - 1#8)) = true) :
    pushIdx k s = .next (endedSameCZ (pushed16 s (s.idx k)) 1 (nextPc s)) :=
  pushIdx_next.2 ⟨hE, _, push16_iff.2 ⟨hin, rfl⟩, rfl⟩

theorem popIdx_completes {s : State} {v : Addr} (k : Idx) (hE : flagE s.f = false)
    (hin : inRam16 s.cfg (eaSp1 (s.sp1 + 1#8)) = true) (hq : s.q = some v) :
    popIdx k s = .next (endedSameCZ ((popped16 s).setIdx k v) 1 (nextPc s)) := by
  refine popIdx_next.2 ⟨hE, v, _, pop16_iff.2 ⟨hq, hin, rfl⟩, ?_⟩
  rw [retire_eq_endedSameCZ, nextPc, nextPc, setIdx_pc]
  rfl

theorem popIdx_undefined {s : State} (k : Idx) (hE : flagE s.f = false) (hq : s.q = none) :
    popIdx k s = .fault .undefinedQueue := by
  rw [popIdx, extInvalid_off _ hE, pop16_undefined hq]
  rfl

/-- Settles O43, by what PUSH and POP of either index register do. -/
theorem addressStackForms : Obligations.AddressStackForms := by
  intro k s v hE
  cases k with
  | x | y => exact ⟨pushIdx_completes _ hE, popIdx_completes _ hE, popIdx_undefined _ hE⟩

/-! ### Returns -/

theorem lowNibble_append (hi lo : Nibble) : BitVec.extractLsb' 0 4 (hi ++ lo) = lo := BitVec.extractLsb'_append_eq_right

theorem highNibble_append (hi lo : Nibble) : BitVec.extractLsb' 4 4 (hi ++ lo) = hi := BitVec.extractLsb'_append_eq_left

/-- Settles O47: all three begin with the pop, which delivers Q or faults. -/
theorem returns : Obligations.Returns := by
  refine ⟨fun s v hE hq hin => ?_, fun s hE hq => ?_⟩
  · have hpop : pop16 s = .ok (v, popped16 s) := pop16_iff.2 ⟨hq, hin, rfl⟩
    refine ⟨execRet_next.2 ⟨hE, v, _, hpop, rfl⟩, execRets_next.2 ⟨hE, v, _, hpop, rfl⟩,
      fun hi lo s1 s2 h1 h2 => ?_⟩
    have hw : write2 (popped16 s).x (hi ++ lo) (popped16 s) = .ok s2 :=
      write2_ok.2 ⟨s1, by rw [lowNibble_append]; exact h1, by rw [highNibble_append]; exact h2⟩
    have hx : s2.x = s.x := (writeWord_sameCore h2).x.trans (writeWord_sameCore h1).x
    refine execRetdImm8_next.2 ⟨hE, v, _, s2, hpop, hw, ?_⟩
    rw [← hx]
    rfl
  · have hpop := pop16_undefined hq
    refine ⟨?_, ?_, fun b => ?_⟩
    · show execRet s = _
      rw [execRet, extInvalid_off _ hE, hpop]
      rfl
    · show execRets s = _
      rw [execRets, extInvalid_off _ hE, hpop]
      rfl
    · show execRetdImm8 b s = _
      rw [execRetdImm8, extInvalid_off _ hE, hpop]
      rfl

/-! ### Interrupt entry, INT and RETI -/

theorem vectorAddress_eq (n : BitVec 6) : 0x0100#16 + n.setWidth 16 = BitVec.ofNat 16 (0x0100 + n.toNat) := by
  have hn := n.isLt
  apply BitVec.eq_of_toNat_eq
  simp only [BitVec.toNat_add, BitVec.toNat_setWidth, BitVec.toNat_ofNat]
  omega

/-- Settles O48, by when the context can be saved and what a return pops. -/
theorem softwareInterruptAndReturn : Obligations.SoftwareInterruptAndReturn := by
  refine ⟨fun s w hk hin => ?_, fun s hE => ⟨fun n hk hin => ?_, fun ret v hq hin hk hv => ?_, fun hq => ?_⟩⟩
  · exact ⟨_, enterInterrupt_ok.2 ⟨_, saveContext_iff.2 ⟨hk, hin, rfl⟩, rfl⟩, rfl, rfl, rfl⟩
  · rw [← vectorAddress_eq]
    exact intImm6_next_iff.2 ⟨hE, hk, hin, rfl⟩
  · have hf : pop4 (popped16 s) = .ok (v, popped4 (popped16 s)) := pop4_iff.2 ⟨hk, hv, rfl⟩
    exact execReti_next.2 ⟨hE, returnFromInterrupt_ok.2 ⟨ret, _, v, _, pop16_iff.2 ⟨hq, hin, rfl⟩, hf, rfl⟩⟩
  · show execReti s = _
    rw [execReti, extInvalid_off _ hE, returnFromInterrupt, pop16_undefined hq]
    rfl

end Sys2Proof.Machine
end

section
/-! Operands that E extends, the reset state, and the reset status after a step: O19, O41, O44, O54, O58. -/

namespace Sys2Proof.Machine

/-! ### Extended operands -/

theorem toNat_append {m n : Nat} (x : BitVec m) (y : BitVec n) : (x ++ y).toNat = x.toNat * 2 ^ n + y.toNat := by
  rw [BitVec.toNat_append, ← Nat.shiftLeft_add_eq_or_of_lt y.isLt, Nat.shiftLeft_eq]

/-- Settles O58, the extended addresses as numbers. -/
theorem extendedAddresses : Obligations.ExtendedAddresses := by
  refine fun s => ⟨fun hE => ⟨eaInd_plain .x hE, eaInd_plain .y hE⟩, fun hE => ⟨?_, ?_, fun k j v => ?_⟩⟩
  · rw [eaInd_x_extended hE, toNat_append]
    simp
  · rw [eaInd_y_extended hE, toNat_append]
    simp
  · have hE' : flagE (s.setIdx j v).f = true := by rw [setIdx_f, hE]
    cases k with
    | x => rw [eaInd_x_extended hE, eaInd_x_extended hE', setIdx_ext]
    | y => rw [eaInd_y_extended hE, eaInd_y_extended hE', setIdx_ext]

/-- The operand a `sign8` stands for is the one with its value, or EXT above it (R26). -/
theorem signOperand_eq {s : State} {d : Byte} {disp : Addr}
    (h : if flagE s.f then disp = s.ext ++ d else disp.toInt = d.toInt) : signOperand s d = disp := by
  unfold signOperand
  split
  · rename_i hE
    rw [if_pos hE] at h
    exact h.symm
  · rename_i hE
    rw [if_neg hE] at h
    apply BitVec.eq_of_toInt_eq
    rw [h, BitVec.toInt_signExtend_of_le (by decide)]

/-- Settles O44: the displacement is the operand the jump itself computes. -/
theorem relativeJumps : Obligations.RelativeJumps := by
  intro c d s disp h
  have hdisp := signOperand_eq h
  subst hdisp
  cases c with
  | always | carry | noCarry | zero | notZero => rfl

/-- What `CMP %ir,imm8` compares with, as a number (R26, R285). -/
theorem cmpOperand_toNat (s : State) (i : Byte) :
    (cmpOperand s i).toNat = if flagE s.f then (255 - s.ext.toNat) * 256 + i.toNat else i.toNat := by
  unfold cmpOperand
  split
  · rw [toNat_append, BitVec.toNat_not]
    norm_num
  · rw [toNat_append]
    simp

theorem ba_setWidth_eq {s : State} {d : Addr} (h : d.toNat = s.b.toNat * 16 + s.a.toNat) : s.ba.setWidth 16 = d := by
  have ha := s.a.isLt
  have hb := s.b.isLt
  apply BitVec.eq_of_toNat_eq
  rw [BitVec.toNat_setWidth, State.ba, toNat_append, h]
  omega

theorem addIdx_completes (k : Idx) (d : Addr) (s : State) :
    (addIdx k d s).retire 1 =
      ended (s.setIdx k (s.idx k + d)) 1 (nextPc s) (flagC s.f) (decide (s.idx k + d = 0#16)) := by
  rw [addIdx, retire_setZ, nextPc, nextPc, setIdx_pc, setIdx_f]

theorem cmpIdx_completes (k : Idx) (i : Byte) (s : State) :
    cmpIdx k i s = .next (ended s 1 (nextPc s) (decide ((s.idx k).toNat < (cmpOperand s i).toNat))
      (decide ((s.idx k).toNat = (cmpOperand s i).toNat))) := by
  rw [cmpIdx_next, retire_setCZ]
  simp only [BitVec.toNat_inj]

/-- Settles O41: addend and comparand are the operands the forms themselves compute. -/
theorem indexArithmetic : Obligations.IndexArithmetic := by
  refine fun k s => ⟨fun d hE hd => ?_, fun i d hd => ?_, fun i v hv => ?_⟩
  · rw [← addIdx_completes, ← ba_setWidth_eq hd]
    cases k with
    | x => exact execAddXBA_next.2 ⟨hE, rfl⟩
    | y => exact execAddYBA_next.2 ⟨hE, rfl⟩
  · rw [← addIdx_completes, ← signOperand_eq hd]
    cases k with
    | x => exact execAddXSign8_next.2 rfl
    | y => exact execAddYSign8_next.2 rfl
  · rw [hv, ← cmpOperand_toNat]
    cases k with
    | x | y => exact cmpIdx_completes _ i s

/-! ### Reset -/

/-- The default configuration D23 is one a family model can have (R6); the tests show it for themselves. -/
theorem config_standard_legal : Config.standard.Legal where
  romWords := by decide
  regions := by decide
  ram16 := by decide
  ram16IsRam a _ ha := by
    have ha' : a < 0x400 := ha
    exact if_pos ⟨Nat.zero_le a, show a < 0 + 0xFF00 by omega⟩
  sources _ hv := nomatch hv
  wake _ hv := nomatch hv

/-- Settles O19, field by field. -/
theorem resetHasInvariant : Obligations.ResetHasInvariant where
  memory := rfl
  program := rfl
  config := config_standard_legal
  contents _ _ h := nomatch h
  extended h := nomatch h
  standby h := absurd rfl h
  reset h := nomatch h

/-- SR low at a boundary is the only thing that leaves reset status (R350, R355). -/
theorem step_inReset {s t : State} (h : step s = .next t) : t.inReset = (offered s).reset := by
  obtain ⟨hr, rfl⟩ | ⟨hr, hacc | ⟨-, ⟨-, rfl⟩ | ⟨-, w, i, -, -, hx⟩⟩⟩ := step_next h
  · exact hr.symm
  · obtain ⟨-, -, -, ht⟩ := accepted_flags hacc
    rw [hr, ht]
    rfl
  · exact hr.symm
  · rw [hr, (exec_follows hx).inReset]
    rfl

/-- Settles O54; a power-on reset state is no `ResetEvent`, since SR is high again in it. -/
theorem resetState : Obligations.ResetState := by
  refine ⟨fun s t ht => ?_, fun s t h => by rw [step_inReset h]⟩
  obtain rfl | rfl := ht
  · exact ⟨rfl, congrArg flagI (resetEvent_f s), congrArg flagE (resetEvent_f s), rfl, rfl, rfl, rfl,
      fun _ => ⟨rfl, rfl, rfl, rfl, rfl⟩⟩
  · refine ⟨rfl, rfl, rfl, rfl, rfl, rfl, rfl, fun h => ?_⟩
    have hr : State.reset.inReset = (resetEvent s).inReset := congrArg State.inReset h
    cases hr

end Sys2Proof.Machine
end

section
/-! Data memory and fetch: O6, O16, O20. -/

namespace Sys2Proof.Machine

theorem fetch_iff {s : State} {w : PWord} :
    fetch s = .ok w ↔ s.pc.toNat < s.cfg.romWords ∧ Cells.lookup s.prog s.pc.toNat = some w := by
  refine ⟨fetch_ok, fun ⟨hlt, hw⟩ => ?_⟩
  simp [fetch, hlt, hw]

theorem fetch_unmapped {s : State} (h : s.cfg.romWords ≤ s.pc.toNat ∨ Cells.lookup s.prog s.pc.toNat = none) :
    fetch s = .error (.unmappedFetch s.pc) := by
  unfold fetch
  obtain hout | hnone := h
  · rw [if_neg (Nat.not_lt.2 hout)]
  · simp [hnone]

/-- Settles O6; the boundary before a fetch changes nothing the fetch looks at. -/
theorem fetchReadsProgramMemory : Obligations.FetchReadsProgramMemory := by
  refine ⟨fun _ _ => fetch_iff, fun s hq h => ?_⟩
  have hf : fetch (afterInput s) = .error (.unmappedFetch s.pc) := fetch_unmapped (s := s) h
  rw [step_of_quiet hq, runInstruction, hf]

/-- Settles O16 by the table of stored addresses. -/
theorem memoryFrame : Obligations.MemoryFrame := fun _ _ _ h => (exec_follows h).mem

/-- Settles O20 by what every step keeps. -/
theorem stepWritesOnlyRam : Obligations.StepWritesOnlyRam := by
  intro s t hc h
  have hk := step_keepsStore hc h
  exact ⟨hk.prog, hk.cfg, hk.notRam⟩

end Sys2Proof.Machine
end

section
/-! The absolute and the two-word forms, and that they complete: O33, O39. -/

namespace Sys2Proof.Machine

/-! ### 6-bit absolute addresses -/

theorem absForm_completes {op : AluOp} {a : Addr} {y x : Nibble} {s s1 s2 : State} (hE : flagE s.f = false)
    (hr : readWord s a = .ok (x, s1)) (hw : writeWord s1 a (op (flagC s.f) x y).res = .ok s2) :
    absForm op a y s =
      .next (ended s2 2 (nextPc s) (op (flagC s.f) x y).c (op (flagC s.f) x y).z) := by
  have hpc : nextPc s2 = nextPc s := by rw [nextPc, nextPc, (writeWord_sameCore hw).pc, (readWord_sameCore hr).1.pc]
  rw [← hpc, ← retire_setCZ]
  exact absForm_next.2 ⟨hE, _, modifyAt_ok.2 ⟨x, s1, s2, hr, hw, rfl⟩, rfl⟩

theorem absTest_completes {op : AluOp} {a : Addr} {y x : Nibble} {s s1 : State} (hE : flagE s.f = false)
    (hr : readWord s a = .ok (x, s1)) :
    absTest op a y s =
      .next (ended s1 1 (nextPc s) (op (flagC s.f) x y).c (op (flagC s.f) x y).z) := by
  obtain ⟨hcore, -⟩ := readWord_sameCore hr
  have hpc : nextPc s1 = nextPc s := by rw [nextPc, nextPc, hcore.pc]
  rw [← hpc, ← hcore.f, ← retire_setCZ]
  exact absTest_next.2 ⟨hE, _, testAt_ok.2 ⟨x, s1, hr, rfl⟩, rfl⟩

/-- An instruction that means `absForm` modifies the word at its address (R55). -/
theorem modifiesWord_of_absForm {i : Instr} {op : AluOp} {a : Addr} {y : Nibble} {s : State} (hE : flagE s.f = false)
    (hi : exec i s = absForm op a y s) : ModifiesWord i 2 op a y id s := by
  rintro x s1 s2 o hr rfl hw
  rw [hi]
  exact absForm_completes hE hr hw

/-- An instruction that means `absTest` tests the word at its address (R54). -/
theorem testsWord_of_absTest {i : Instr} {op : AluOp} {a : Addr} {y : Nibble} {s : State} (hE : flagE s.f = false)
    (hi : exec i s = absTest op a y s) : TestsWord i op a y id s := by
  rintro x s1 o hr rfl
  rw [hi]
  exact absTest_completes hE hr

theorem getLsbD_bitMask (b : BitVec 2) (j : Nat) (hj : j < 4) : (bitMask b).getLsbD j = decide (j = b.toNat) := by
  rw [bitMask, BitVec.getLsbD_ofNat, Nat.testBit_two_pow]
  simp [hj, eq_comm]

/-- The mask of R247 to R249 is the one nibble with bit `b` alone set. -/
theorem eq_bitMask {b : BitVec 2} {m : Nibble} (h : ∀ j : Nat, j < 4 → m.getLsbD j = decide (j = b.toNat)) :
    m = bitMask b :=
  BitVec.eq_of_getLsbD_eq fun j hj => (h j hj).trans (getLsbD_bitMask b j hj).symm

/-- Settles O33: each instruction means `absForm` or `absTest` at the address its page gives. -/
theorem absoluteForms : Obligations.AbsoluteForms := by
  intro a s hE
  rw [Page.address_low]
  refine ⟨modifiesWord_of_absForm hE rfl, modifiesWord_of_absForm hE rfl, fun p b m hm => ?_⟩
  rw [eq_bitMask hm]
  cases p with
  | low =>
    rw [Page.address_low]
    exact ⟨modifiesWord_of_absForm hE rfl, modifiesWord_of_absForm hE rfl, testsWord_of_absTest hE rfl⟩
  | high =>
    exact ⟨modifiesWord_of_absForm hE rfl, modifiesWord_of_absForm hE rfl, testsWord_of_absTest hE rfl⟩

/-! ### Two words -/

theorem setBA_append (s : State) (hi lo : Nibble) : s.setBA (hi ++ lo) = { s with a := lo, b := hi } := by
  rw [State.setBA, lowNibble_append, highNibble_append]

theorem loadBA_completes {k : Idx} {s s1 s2 : State} {lo hi : Nibble} (hE : flagE s.f = false)
    (h1 : readWord s (s.idx k) = .ok (lo, s1)) (h2 : readWord s1 (s.idx k + 1#16) = .ok (hi, s2)) :
    loadBA k s = .next (endedSameCZ ({ s2 with a := lo, b := hi }.bump k 2#16) 2 (nextPc s)) := by
  have hpc : s2.pc = s.pc := (readWord_sameCore h2).1.pc.trans (readWord_sameCore h1).1.pc
  refine loadBA_next.2 ⟨hE, hi ++ lo, s2, read2_ok.2 ⟨lo, s1, hi, h1, h2, rfl⟩, ?_⟩
  rw [setBA_append, retire_eq_endedSameCZ, nextPc, nextPc, bump_pc, ← hpc]

theorem store2_completes {k : Idx} {s s1 s2 : State} {lo hi : Nibble} (hE : flagE s.f = false)
    (h1 : writeWord s (s.idx k) lo = .ok s1) (h2 : writeWord s1 (s.idx k + 1#16) hi = .ok s2) :
    store2 k (hi ++ lo) s = .next (endedSameCZ (s2.bump k 2#16) 2 (nextPc s)) := by
  have hpc : s2.pc = s.pc := (writeWord_sameCore h2).pc.trans (writeWord_sameCore h1).pc
  have hw : write2 (s.idx k) (hi ++ lo) s = .ok s2 :=
    write2_ok.2 ⟨s1, by rw [lowNibble_append]; exact h1, by rw [highNibble_append]; exact h2⟩
  refine store2_next.2 ⟨hE, s2, hw, ?_⟩
  rw [retire_eq_endedSameCZ, nextPc, nextPc, bump_pc, hpc]

/-- Settles O39: the loads mean `loadBA`, the stores `store2`. -/
theorem byteLoadsAndStores : Obligations.ByteLoadsAndStores := by
  refine fun k s s1 s2 lo hi hE => ⟨fun h1 h2 => ?_, fun h1 h2 => ?_, fun h1 h2 => ?_⟩
  · cases k with
    | x | y => exact loadBA_completes hE h1 h2
  · cases k with
    | x | y => exact store2_completes hE h1 h2
  · have hx : s2.x = s.x := (writeWord_sameCore h2).x.trans (writeWord_sameCore h1).x
    rw [← hx]
    exact store2_completes (k := .x) hE h1 h2

end Sys2Proof.Machine
end

section
/-! O53: RETI takes back an interrupt entry (R57, R315, R398). -/

namespace Sys2Proof.Machine

/-- RETI where Q holds the return address and the word at SP2 the flags that `s` had, both pointers one below those of `s`:
the refill of Q reaches the entry at SP1 of `s`, written or not (R358, D14). -/
theorem reti_undoes {s t : State} {ret : Addr} (hE : flagE t.f = false) (hq : t.q = some ret)
    (hsp1 : t.sp1 = s.sp1 - 1#8) (hsp2 : t.sp2 = s.sp2 - 1#8) (hcfg : t.cfg = s.cfg)
    (hin : inRam16 s.cfg (eaSp1 s.sp1) = true) (hk : kindAt s.cfg (eaSp2 (s.sp2 - 1#8)) = some .ram)
    (hf : wordAt t (eaSp2 t.sp2).toNat = some s.f) :
    ∃ u, exec .reti t = .next u ∧ u.pc = ret ∧ u.f = s.f ∧ u.sp1 = s.sp1 ∧ u.sp2 = s.sp2 ∧ u.defer = true := by
  have hback1 : t.sp1 + 1#8 = s.sp1 := by rw [hsp1, BitVec.sub_add_cancel]
  have hback2 : t.sp2 + 1#8 = s.sp2 := by rw [hsp2, BitVec.sub_add_cancel]
  have hin1 : inRam16 t.cfg (eaSp1 (t.sp1 + 1#8)) = true := by rw [hcfg, hback1]; exact hin
  have hk2 : kindAt t.cfg (eaSp2 t.sp2) = some .ram := by rw [hcfg, hsp2]; exact hk
  obtain ⟨-, hreti, -⟩ := softwareInterruptAndReturn.2 t hE
  exact ⟨_, hreti ret s.f hq hin1 hk2 hf, rfl, rfl, hback1, hback2, rfl⟩

/-- Settles O53: both entries save the context, and the saved F is read back. -/
theorem returnUndoesEntry : Obligations.ReturnUndoesEntry := by
  intro s hE hk hin hin' hno
  refine ⟨fun v => ?_, fun n => ?_⟩
  · have ht : enterInterrupt v s = .ok _ := enterInterrupt_ok.2 ⟨_, saveContext_iff.2 ⟨hk, hin, rfl⟩, rfl⟩
    have hEt := (enterInterrupt_flags ht).1
    have hf := entry_savedF hno (.inl ⟨v, ht⟩)
    obtain ⟨u, hu⟩ := reti_undoes (s := s) hEt rfl rfl rfl rfl hin' hk hf
    exact ⟨_, u, ht, hu⟩
  · have ht := (intImm6_next_iff (n := n)).2 ⟨hE, hk, hin, rfl⟩
    have hEt := (exec_follows ht).leftE rfl
    have hf := entry_savedF hno (.inr ⟨n, ht⟩)
    obtain ⟨u, hu⟩ := reti_undoes (s := s) hEt rfl rfl rfl rfl hin' hk hf
    exact ⟨_, u, ht, hu⟩

end Sys2Proof.Machine
end

section
/-! O17: what an instruction leaves alone of the core's surroundings, and how it acts on the peripheral circuits (R40, R52,
R311, R325, R331). -/

namespace Sys2Proof.Machine

/-- The part of the state that is neither a register, nor data memory, nor the cycle counter. -/
def State.surroundings (s : State) :
    ProgramMemory × Config × List BoundaryInput × Bool × Bool × RunState × List Event × Periph :=
  (s.prog, s.cfg, s.inputs, s.nmiPending, s.inReset, s.run, s.events, s.periph)

/-- The event is an access to an I/O word (R52). -/
def Event.IsIo (e : Event) : Prop := (∃ a v, e = .ioRead a v) ∨ ∃ a v, e = .ioWrite a v

/-- `t` has the surroundings of `s` but for the I/O accesses made on the way, each recorded, and what they made of the
peripheral's state. -/
structure OnlyIo (s t : State) : Prop where
  prog : t.prog = s.prog
  cfg : t.cfg = s.cfg
  inputs : t.inputs = s.inputs
  nmiPending : t.nmiPending = s.nmiPending
  inReset : t.inReset = s.inReset
  run : t.run = s.run
  accesses : ∃ added : List Event, t.events = added ++ s.events ∧ (∀ e ∈ added, e.IsIo) ∧
    (added = [] → t.periph = s.periph)

theorem OnlyIo.of_surroundings {s t : State} (h : t.surroundings = s.surroundings) : OnlyIo s t := by
  simp only [State.surroundings, Prod.mk.injEq] at h
  obtain ⟨hprog, hcfg, hin, hnmi, hreset, hrun, hev, hper⟩ := h
  exact ⟨hprog, hcfg, hin, hnmi, hreset, hrun, [], hev, by simp, fun _ => hper⟩

theorem OnlyIo.trans {s t u : State} (h : OnlyIo s t) (h' : OnlyIo t u) : OnlyIo s u where
  prog := h'.prog.trans h.prog
  cfg := h'.cfg.trans h.cfg
  inputs := h'.inputs.trans h.inputs
  nmiPending := h'.nmiPending.trans h.nmiPending
  inReset := h'.inReset.trans h.inReset
  run := h'.run.trans h.run
  accesses := by
    obtain ⟨l, hl, hio, hper⟩ := h.accesses
    obtain ⟨l', hl', hio', hper'⟩ := h'.accesses
    refine ⟨l' ++ l, by rw [hl', hl, List.append_assoc], fun e he => ?_, fun hnil => ?_⟩
    · exact (List.mem_append.1 he).elim (hio' e) (hio e)
    · obtain ⟨hnil', hnil⟩ := List.append_eq_nil_iff.1 hnil
      exact (hper' hnil').trans (hper hnil)

theorem OnlyIo.ioAccess (s : State) (p : Periph) {e : Event} (he : e.IsIo) : OnlyIo s (s.ioAccess p e) :=
  ⟨rfl, rfl, rfl, rfl, rfl, rfl, [e], rfl, by simpa using he, fun h => nomatch h⟩

/-! ### Computations -/

/-- Where the computation succeeds, the state `π` finds in its answer is `s` but for I/O accesses. -/
def AccessesFrom {α : Type} (s : State) (π : α → State) (r : Except Fault α) : Prop := ∀ a, r = .ok a → OnlyIo s (π a)

/-- The last step of an instruction: it changes registers, flags and the cycle counter. -/
theorem AccessesFrom.ok {s t : State} (h : t.surroundings = s.surroundings) : AccessesFrom s id (.ok t) :=
  fun _ ha => ok_iff.1 ha ▸ .of_surroundings h

theorem AccessesFrom.bind {α β : Type} {s : State} {π : α → State} {ρ : β → State} {r : Except Fault α}
    {k : α → Except Fault β} (h : AccessesFrom s π r) (hk : ∀ a, AccessesFrom (π a) ρ (k a)) :
    AccessesFrom s ρ (r >>= k) := by
  intro b hb
  obtain ⟨a, ha, hab⟩ := bind_ok.1 hb
  exact (h a ha).trans (hk a b hab)

theorem readWord_accesses (s : State) (a : Addr) : AccessesFrom s Prod.snd (readWord s a) := by
  rintro ⟨v, t⟩ h
  obtain ⟨-, -, rfl⟩ | ⟨-, -, rfl⟩ := readWord_ok h
  · exact .of_surroundings rfl
  · exact .ioAccess s _ (.inl ⟨a, v, rfl⟩)

theorem writeWord_accesses (s : State) (a : Addr) (v : Nibble) : AccessesFrom s id (writeWord s a v) := by
  intro t h
  obtain ⟨-, rfl⟩ | ⟨-, rfl⟩ := writeWord_ok h
  · exact .of_surroundings rfl
  · exact .ioAccess s _ (.inr ⟨a, v, rfl⟩)

theorem push4_accesses (v : Nibble) (s : State) : AccessesFrom s id (push4 v s) := by
  intro t h
  obtain ⟨-, rfl⟩ := push4_iff.1 h
  exact .of_surroundings rfl

theorem pop4_accesses (s : State) : AccessesFrom s Prod.snd (pop4 s) := by
  rintro ⟨v, t⟩ h
  obtain ⟨-, -, rfl⟩ := pop4_iff.1 h
  exact .of_surroundings rfl

theorem push16_accesses (v : Addr) (s : State) : AccessesFrom s id (push16 v s) := by
  intro t h
  obtain ⟨-, rfl⟩ := push16_iff.1 h
  exact .of_surroundings rfl

theorem setSp1_accesses (p : Byte) (s : State) : AccessesFrom s id (setSp1 p s) := by
  intro t h
  obtain ⟨-, rfl⟩ := setSp1_ok.1 h
  exact .of_surroundings rfl

theorem pop16_accesses (s : State) : AccessesFrom s Prod.snd (pop16 s) :=
  fun ⟨_, t⟩ h => setSp1_accesses _ s t (pop16_ok.1 h).2

theorem modifyAt_accesses (op : AluOp) (a : Addr) (y : Nibble) (s : State) : AccessesFrom s id (modifyAt op a y s) :=
  (readWord_accesses _ _).bind fun _ => (writeWord_accesses _ _ _).bind fun _ => .ok rfl

theorem testAt_accesses (op : AluOp) (a : Addr) (y : Nibble) (s : State) : AccessesFrom s id (testAt op a y s) :=
  (readWord_accesses _ _).bind fun _ => .ok rfl

theorem surroundings_setReg (s : State) (r : Reg) (v : Nibble) : (s.setReg r v).surroundings = s.surroundings := by
  cases r <;> rfl

theorem exchangeAt_accesses (r : Reg) (a : Addr) (s : State) : AccessesFrom s id (exchangeAt r a s) :=
  (readWord_accesses _ _).bind fun _ => (writeWord_accesses _ _ _).bind fun _ => .ok (surroundings_setReg _ _ _)

theorem read2_accesses (a : Addr) (s : State) : AccessesFrom s Prod.snd (read2 a s) := by
  rintro ⟨v, t⟩ h
  obtain ⟨lo, s1, hi, hlo, hhi, -⟩ := read2_ok.1 h
  exact (readWord_accesses _ _ _ hlo).trans (readWord_accesses _ _ _ hhi)

theorem write2_accesses (a : Addr) (v : Byte) (s : State) : AccessesFrom s id (write2 a v s) :=
  (writeWord_accesses _ _ _).bind fun _ => writeWord_accesses _ _ _

theorem saveContext_accesses (ret : Addr) (s : State) : AccessesFrom s id (saveContext ret s) :=
  (push4_accesses _ _).bind fun _ => push16_accesses _ _

/-! ### Every instruction -/

/-- An outcome that goes on to a state with the surroundings of `s` but for I/O accesses. -/
def GoesOnByIo (s : State) (o : Host.Outcome State Fault Refusal) : Prop := ∀ t, o = .next t → OnlyIo s t

theorem GoesOnByIo.finish {s : State} {r : Except Fault State} (hr : AccessesFrom s id r) : GoesOnByIo s (finish r) :=
  fun t h => hr t (finish_next.1 h)

theorem GoesOnByIo.extInvalid {s : State} {r : Except Fault State} (hr : AccessesFrom s id r) :
    GoesOnByIo s (extInvalid s r) :=
  fun t h => hr t (extInvalid_next.1 h).2

/-- The instructions by what their computation accesses; HALT and SLP alone change the run state (R325). -/
theorem exec_goesOnByIo {i : Instr} (s : State) (hhalt : i ≠ .halt) (hslp : i ≠ .slp) : GoesOnByIo s (exec i s) := by
  cases i with
  | halt => exact absurd rfl hhalt
  | slp => exact absurd rfl hslp
  | ldAImm4 | ldBImm4 | ldAA | ldAB | ldAF | ldBA | ldBB | ldFImm4 | andFImm4 | orFImm4 | xorFImm4 | ldFA | addAImm4
  | addBImm4 | adcAImm4 | adcBImm4 | subAImm4 | subBImm4 | sbcAImm4 | sbcBImm4 | adcBAN4 | sbcBAN4 | andAImm4
  | andBImm4 | orAImm4 | orBImm4 | xorAImm4 | xorBImm4 | addAA | addAB | addBA | addBB | adcAA | adcAB | adcBA
  | adcBB | subAA | subAB | subBA | subBB | sbcAA | sbcAB | sbcBA | sbcBB | andAA | andAB | andBA | andBB | orAA
  | orAB | orBA | orBB | xorAA | xorAB | xorBA | xorBB | sllA | sllB | srlA | srlB | rlA | rlB | rrA | rrB | cmpAImm4
  | cmpBImm4 | bitAImm4 | bitBImm4 | cmpAA | cmpAB | cmpBA | cmpBB | bitAA | bitAB | bitBA | bitBB | ldbBAImm8
  | ldbBAEXT | ldbBAXL | ldbBAXH | ldbBAYL | ldbBAYH | ldbBASP1 | ldbBASP2 | ldbEXTImm8 | ldbEXTBA | ldbXLBA
  | ldbYLBA | ldbXHBA | ldbYHBA | ldbSP2BA | incSP2 | decSP2 | exAB | addXBA | addYBA | jrA | jrBA | jpY | nop =>
    exact .extInvalid (.ok rfl)
  | ldbXLImm8 | ldbYLImm8 | addXSign8 | addYSign8 | cmpXImm8 | cmpYImm8 | jrSign8 | jrcSign8 | jrncSign8 | jrzSign8
  | jrnzSign8 => exact .finish (r := .ok _) (.ok rfl)
  | ldAMemX | ldAMemY | ldBMemX | ldBMemY | adcBMemXN4 | adcBMemYN4 | sbcBMemXN4 | sbcBMemYN4 | addAMemX | addAMemY
  | addBMemX | addBMemY | adcAMemX | adcAMemY | adcBMemX | adcBMemY | subAMemX | subAMemY | subBMemX | subBMemY
  | sbcAMemX | sbcAMemY | sbcBMemX | sbcBMemY | andAMemX | andAMemY | andBMemX | andBMemY | orAMemX | orAMemY
  | orBMemX | orBMemY | xorAMemX | xorAMemY | xorBMemX | xorBMemY | cmpAMemX | cmpAMemY | cmpBMemX | cmpBMemY
  | bitAMemX | bitAMemY | bitBMemX | bitBMemY =>
    exact .finish ((readWord_accesses _ _).bind fun _ => .ok rfl)
  | ldAMemXInc | ldAMemYInc | ldBMemXInc | ldBMemYInc | adcBMemXIncN4 | adcBMemYIncN4 | sbcBMemXIncN4 | sbcBMemYIncN4
  | addAMemXInc | addAMemYInc | addBMemXInc | addBMemYInc | adcAMemXInc | adcAMemYInc | adcBMemXInc | adcBMemYInc
  | subAMemXInc | subAMemYInc | subBMemXInc | subBMemYInc | sbcAMemXInc | sbcAMemYInc | sbcBMemXInc | sbcBMemYInc
  | andAMemXInc | andAMemYInc | andBMemXInc | andBMemYInc | orAMemXInc | orAMemYInc | orBMemXInc | orBMemYInc
  | xorAMemXInc | xorAMemYInc | xorBMemXInc | xorBMemYInc | cmpAMemXInc | cmpAMemYInc | cmpBMemXInc | cmpBMemYInc
  | bitAMemXInc | bitAMemYInc | bitBMemXInc | bitBMemYInc | jrMemAddr6 =>
    exact .extInvalid ((readWord_accesses _ _).bind fun _ => .ok rfl)
  | ldMemXImm4 | ldMemYImm4 | ldMemXA | ldMemXB | ldMemYA | ldMemYB =>
    exact .finish ((writeWord_accesses _ _ _).bind fun _ => .ok rfl)
  | ldMemXIncImm4 | ldMemYIncImm4 | ldMemXIncA | ldMemXIncB | ldMemYIncA | ldMemYIncB =>
    exact .extInvalid ((writeWord_accesses _ _ _).bind fun _ => .ok rfl)
  | addMemXImm4 | addMemYImm4 | adcMemXImm4 | adcMemYImm4 | subMemXImm4 | subMemYImm4 | sbcMemXImm4 | sbcMemYImm4
  | adcMemXBN4 | adcMemYBN4 | adcMemXZeroN4 | adcMemYZeroN4 | sbcMemXBN4 | sbcMemYBN4 | sbcMemXZeroN4 | sbcMemYZeroN4
  | incMemXN4 | incMemYN4 | decMemXN4 | decMemYN4 | andMemXImm4 | andMemYImm4 | orMemXImm4 | orMemYImm4 | xorMemXImm4
  | xorMemYImm4 | addMemXA | addMemXB | addMemYA | addMemYB | adcMemXA | adcMemXB | adcMemYA | adcMemYB | subMemXA
  | subMemXB | subMemYA | subMemYB | sbcMemXA | sbcMemXB | sbcMemYA | sbcMemYB | andMemXA | andMemXB | andMemYA
  | andMemYB | orMemXA | orMemXB | orMemYA | orMemYB | xorMemXA | xorMemXB | xorMemYA | xorMemYB | sllMemX | sllMemY
  | srlMemX | srlMemY | rlMemX | rlMemY | rrMemX | rrMemY =>
    exact .finish ((modifyAt_accesses _ _ _ _).bind fun _ => .ok rfl)
  | addMemXIncImm4 | addMemYIncImm4 | adcMemXIncImm4 | adcMemYIncImm4 | subMemXIncImm4 | subMemYIncImm4
  | sbcMemXIncImm4 | sbcMemYIncImm4 | adcMemXIncBN4 | adcMemYIncBN4 | adcMemXIncZeroN4 | adcMemYIncZeroN4
  | sbcMemXIncBN4 | sbcMemYIncBN4 | sbcMemXIncZeroN4 | sbcMemYIncZeroN4 | incMemXIncN4 | incMemYIncN4 | decMemXIncN4
  | decMemYIncN4 | andMemXIncImm4 | andMemYIncImm4 | orMemXIncImm4 | orMemYIncImm4 | xorMemXIncImm4 | xorMemYIncImm4
  | addMemXIncA | addMemXIncB | addMemYIncA | addMemYIncB | adcMemXIncA | adcMemXIncB | adcMemYIncA | adcMemYIncB
  | subMemXIncA | subMemXIncB | subMemYIncA | subMemYIncB | sbcMemXIncA | sbcMemXIncB | sbcMemYIncA | sbcMemYIncB
  | andMemXIncA | andMemXIncB | andMemYIncA | andMemYIncB | orMemXIncA | orMemXIncB | orMemYIncA | orMemYIncB
  | xorMemXIncA | xorMemXIncB | xorMemYIncA | xorMemYIncB | sllMemXInc | sllMemYInc | srlMemXInc | srlMemYInc
  | rlMemXInc | rlMemYInc | rrMemXInc | rrMemYInc | incMemAddr6 | decMemAddr6 | clrMem00Addr6Imm2 | clrMemFFAddr6Imm2
  | setMem00Addr6Imm2 | setMemFFAddr6Imm2 =>
    exact .extInvalid ((modifyAt_accesses _ _ _ _).bind fun _ => .ok rfl)
  | cmpMemXImm4 | cmpMemYImm4 | bitMemXImm4 | bitMemYImm4 | cmpMemXA | cmpMemXB | cmpMemYA | cmpMemYB | bitMemXA
  | bitMemXB | bitMemYA | bitMemYB => exact .finish ((testAt_accesses _ _ _ _).bind fun _ => .ok rfl)
  | cmpMemXIncImm4 | cmpMemYIncImm4 | bitMemXIncImm4 | bitMemYIncImm4 | cmpMemXIncA | cmpMemXIncB | cmpMemYIncA
  | cmpMemYIncB | bitMemXIncA | bitMemXIncB | bitMemYIncA | bitMemYIncB | tstMem00Addr6Imm2 | tstMemFFAddr6Imm2 =>
    exact .extInvalid ((testAt_accesses _ _ _ _).bind fun _ => .ok rfl)
  | exAMemX | exAMemY | exBMemX | exBMemY =>
    exact .finish ((exchangeAt_accesses _ _ _).bind fun _ => .ok rfl)
  | exAMemXInc | exAMemYInc | exBMemXInc | exBMemYInc =>
    exact .extInvalid ((exchangeAt_accesses _ _ _).bind fun _ => .ok rfl)
  | ldMemXMemY | ldMemYMemX | ldMemXMemYInc | ldMemYMemXInc | ldMemXIncMemY | ldMemYIncMemX | ldMemXIncMemYInc
  | ldMemYIncMemXInc =>
    exact .extInvalid ((readWord_accesses _ _).bind fun _ => (writeWord_accesses _ _ _).bind fun _ => .ok rfl)
  | ldbBAMemXInc | ldbBAMemYInc => exact .extInvalid ((read2_accesses _ _).bind fun _ => .ok rfl)
  | ldbMemXIncImm8 | ldbMemXIncBA | ldbMemYIncBA =>
    exact .extInvalid ((write2_accesses _ _ _).bind fun _ => .ok rfl)
  | ldbSP1BA | incSP1 | decSP1 => exact .extInvalid ((setSp1_accesses _ _).bind fun _ => .ok rfl)
  | pushA | pushB | pushF => exact .extInvalid ((push4_accesses _ _).bind fun _ => .ok rfl)
  | popA | popB | popF => exact .extInvalid ((pop4_accesses _).bind fun _ => .ok rfl)
  | pushX | pushY | calzImm8 => exact .extInvalid ((push16_accesses _ _).bind fun _ => .ok rfl)
  | calrSign8 => exact .finish ((push16_accesses _ _).bind fun _ => .ok rfl)
  | calrMemAddr6 =>
    exact .extInvalid ((push16_accesses _ _).bind fun _ => (readWord_accesses _ _).bind fun _ => .ok rfl)
  | popX | popY | ret | rets => exact .extInvalid ((pop16_accesses _).bind fun _ => .ok rfl)
  | retdImm8 =>
    exact .extInvalid ((pop16_accesses _).bind fun _ => (write2_accesses _ _ _).bind fun _ => .ok rfl)
  | reti => exact .extInvalid ((pop16_accesses _).bind fun _ => (pop4_accesses _).bind fun _ => .ok rfl)
  | intImm6 => exact .extInvalid ((saveContext_accesses _ _).bind fun _ => .ok rfl)

/-- Settles O17: all but HALT and SLP reach outside the registers and memory by I/O accesses alone. -/
theorem coreFrame : Obligations.CoreFrame := by
  intro i s t h
  by_cases hslp : i = .slp
  · subst hslp
    obtain ⟨-, rfl⟩ := execSlp_next.1 h
    exact ⟨rfl, rfl, rfl, rfl, rfl, fun _ hne => absurd rfl hne, [.uslp], rfl, by simp, fun _ => rfl⟩
  by_cases hhalt : i = .halt
  · subst hhalt
    obtain ⟨-, rfl⟩ := execHalt_next.1 h
    exact ⟨rfl, rfl, rfl, rfl, rfl, fun hne _ => absurd rfl hne, [], rfl, by simp, fun _ => rfl⟩
  have ho := exec_goesOnByIo s hhalt hslp t h
  obtain ⟨added, hev, hio, hper⟩ := ho.accesses
  refine ⟨ho.prog, ho.cfg, ho.inputs, ho.nmiPending, ho.inReset, fun _ _ => ho.run, added, hev,
    fun e he => (hio e he).imp_right .inl, fun hno => hper (List.eq_nil_iff_forall_not_mem.2 fun e he => ?_)⟩
  obtain ⟨a, v, rfl⟩ | ⟨a, v, rfl⟩ := hio e he
  · exact (hno _ he a v).1 rfl
  · exact (hno _ he a v).2 rfl

end Sys2Proof.Machine
end

section
/-! The words: what the decoder reads of a code, and what a decoded word has of its instruction's code (R73 to R80). -/

namespace Sys2Proof.Machine

/-! ### The fields of a word -/

/-- Two neighbouring fields of a word are one field. -/
theorem extract_join (w : PWord) (start m n : Nat) :
    w.extractLsb' (start + n) m ++ w.extractLsb' start n = w.extractLsb' start (m + n) :=
  BitVec.extractLsb'_append_extractLsb'_eq_extractLsb' rfl

/-- A word with an 8-bit field. -/
theorem word_of_byte {w : PWord} {p : BitVec 5} (hp : w.extractLsb' 8 5 = p) : w = p ++ w.extractLsb' 0 8 :=
  hp ▸ (BitVec.extractLsb'_append_extractLsb' (w := 5) (len := 8) (x := w)).symm

/-- A word with an 8-bit field that holds the complement of its operand (R79). -/
theorem word_of_notByte {w : PWord} {p : BitVec 5} (hp : w.extractLsb' 8 5 = p) : w = p ++ ~~~(~~~w.extractLsb' 0 8) := by
  rw [BitVec.not_not]
  exact word_of_byte hp

/-- A word with a 6-bit field after 7 fixed bits. -/
theorem word_of_fixed7 {w : PWord} {p : BitVec 5} {j : BitVec 2} {h : BitVec 7} (hp : w.extractLsb' 8 5 = p)
    (hj : w.extractLsb' 6 2 = j) (hh : p ++ j = h) : w = h ++ w.extractLsb' 0 6 := by
  have hhigh : h = w.extractLsb' 6 7 := hh ▸ hp ▸ hj ▸ extract_join w 6 5 2
  rw [hhigh]
  exact (BitVec.extractLsb'_append_extractLsb' (w := 7) (len := 6) (x := w)).symm

/-- A word with a 4-bit field after 9 fixed bits. -/
theorem word_of_digits {w : PWord} {p : BitVec 5} {m : Nibble} {h : BitVec 9} (hp : w.extractLsb' 8 5 = p)
    (hm : w.extractLsb' 4 4 = m) (hh : p ++ m = h) : w = h ++ w.extractLsb' 0 4 := by
  have hhigh : h = w.extractLsb' 4 9 := hh ▸ hp ▸ hm ▸ extract_join w 4 5 4
  rw [hhigh]
  exact (BitVec.extractLsb'_append_extractLsb' (w := 9) (len := 4) (x := w)).symm

/-- Where the decoder looks at bits 7 to 4, a 6-bit field is known by the upper two of them. -/
theorem word_of_addr6 {w : PWord} {p : BitVec 5} {m : Nibble} {h : BitVec 7} (hp : w.extractLsb' 8 5 = p)
    (hm : w.extractLsb' 4 4 = m) (hh : p ++ m.extractLsb' 2 2 = h) : w = h ++ w.extractLsb' 0 6 := by
  refine word_of_fixed7 hp ?_ hh
  rw [← hm, ← extract_join w 4 2 2, BitVec.extractLsb'_append_eq_left]

theorem pair_cases : ∀ t : BitVec 2, t = 0#2 ∨ t = 1#2 ∨ t = 2#2 ∨ t = 3#2 := by decide

theorem nibble_cases : ∀ m : Nibble,
    m = 0x0#4 ∨ m = 0x1#4 ∨ m = 0x2#4 ∨ m = 0x3#4 ∨ m = 0x4#4 ∨ m = 0x5#4 ∨ m = 0x6#4 ∨ m = 0x7#4 ∨ m = 0x8#4 ∨
    m = 0x9#4 ∨ m = 0xA#4 ∨ m = 0xB#4 ∨ m = 0xC#4 ∨ m = 0xD#4 ∨ m = 0xE#4 ∨ m = 0xF#4 := by decide

theorem opcode_cases : ∀ p : BitVec 5,
    p = 0x00#5 ∨ p = 0x01#5 ∨ p = 0x02#5 ∨ p = 0x03#5 ∨ p = 0x04#5 ∨ p = 0x05#5 ∨ p = 0x06#5 ∨ p = 0x07#5 ∨
    p = 0x08#5 ∨ p = 0x09#5 ∨ p = 0x0A#5 ∨ p = 0x0B#5 ∨ p = 0x0C#5 ∨ p = 0x0D#5 ∨ p = 0x0E#5 ∨ p = 0x0F#5 ∨
    p = 0x10#5 ∨ p = 0x11#5 ∨ p = 0x12#5 ∨ p = 0x13#5 ∨ p = 0x14#5 ∨ p = 0x15#5 ∨ p = 0x16#5 ∨ p = 0x17#5 ∨
    p = 0x18#5 ∨ p = 0x19#5 ∨ p = 0x1A#5 ∨ p = 0x1B#5 ∨ p = 0x1C#5 ∨ p = 0x1D#5 ∨ p = 0x1E#5 ∨ p = 0x1F#5 := by decide

/-! ### Radix fields (R78) -/

theorem fieldOfRadix_radixOfField : ∀ k : Nibble, fieldOfRadix (radixOfField k) = k := by decide

theorem complementOfRadix_radixOfComplement : ∀ k : Nibble, complementOfRadix (radixOfComplement k) = k := by decide

theorem radixOk_radixOfField : ∀ k : Nibble, radixOk (radixOfField k) = true := by decide

theorem radixOk_radixOfComplement : ∀ k : Nibble, radixOk (radixOfComplement k) = true := by decide

theorem radixOk_iff {n : Nat} : radixOk n = true ↔ 1 ≤ n ∧ n ≤ 16 := by simp [radixOk]

theorem radixOfField_fieldOfRadix {n : Nat} (h : radixOk n = true) : radixOfField (fieldOfRadix n) = n := by
  obtain ⟨h1, h16⟩ := radixOk_iff.1 h
  interval_cases n <;> rfl

theorem radixOfComplement_complementOfRadix {n : Nat} (h : radixOk n = true) :
    radixOfComplement (complementOfRadix n) = n := by
  obtain ⟨h1, h16⟩ := radixOk_iff.1 h
  interval_cases n <;> rfl

theorem word_of_radixField {w : PWord} {p : BitVec 5} {m : Nibble} {h : BitVec 9} (hp : w.extractLsb' 8 5 = p)
    (hm : w.extractLsb' 4 4 = m) (hh : p ++ m = h) : w = h ++ fieldOfRadix (radixOfField (w.extractLsb' 0 4)) := by
  rw [fieldOfRadix_radixOfField]
  exact word_of_digits hp hm hh

theorem word_of_radixComplement {w : PWord} {p : BitVec 5} {m : Nibble} {h : BitVec 9} (hp : w.extractLsb' 8 5 = p)
    (hm : w.extractLsb' 4 4 = m) (hh : p ++ m = h) :
    w = h ++ complementOfRadix (radixOfComplement (w.extractLsb' 0 4)) := by
  rw [complementOfRadix_radixOfComplement]
  exact word_of_digits hp hm hh

end Sys2Proof.Machine
end

section
/-! O1: decoding the code of an instruction. For each shape of code, what the decoder finds in the fields it looks at. -/

namespace Sys2Proof.Machine

/-! ### The pages: the words of one opcode (R81 to R85) -/

theorem decode_page10 {w : PWord} (hp : w.extractLsb' 8 5 = 0x10#5) : decode w = decode10 w := by simp [decode, hp]

theorem decode_page18 {w : PWord} (hp : w.extractLsb' 8 5 = 0x18#5) : decode w = decode18 w := by simp [decode, hp]

theorem decode_page19 {w : PWord} (hp : w.extractLsb' 8 5 = 0x19#5) : decode w = decode19 w := by simp [decode, hp]

theorem decode_page1A {w : PWord} (hp : w.extractLsb' 8 5 = 0x1A#5) : decode w = decode1A w := by simp [decode, hp]

theorem decode_page1B {w : PWord} (hp : w.extractLsb' 8 5 = 0x1B#5) : decode w = decode1B w := by simp [decode, hp]

theorem decode_page1C {w : PWord} (hp : w.extractLsb' 8 5 = 0x1C#5) : decode w = decode1C w := by simp [decode, hp]

theorem decode_page1D {w : PWord} (hp : w.extractLsb' 8 5 = 0x1D#5) : decode w = decode1D w := by simp [decode, hp]

theorem decode_page1E {w : PWord} (hp : w.extractLsb' 8 5 = 0x1E#5) : decode w = decode1E w := by simp [decode, hp]

theorem decode_page1F {w : PWord} (hp : w.extractLsb' 8 5 = 0x1F#5) : decode w = decode1F w := by simp [decode, hp]

/-! ### The fields of a code -/

/-- A code with a 4-bit field decodes as any word does that has its fixed digits and the field's value. -/
theorem decode_of_code4 {i : Instr} {h : BitVec 9} {k : Nibble} (hc : encode i = h ++ k)
    (hd : ∀ w : PWord, w.extractLsb' 8 5 = h.extractLsb' 4 5 → w.extractLsb' 4 4 = h.extractLsb' 0 4 →
      w.extractLsb' 0 4 = k → decode w = some i) : decode (encode i) = some i :=
  hc ▸ hd _ (BitVec.extractLsb'_append_eq_of_le (by decide)) (BitVec.extractLsb'_append_eq_of_le (by decide))
    BitVec.extractLsb'_append_eq_right

/-- A code with a 2-bit field before a 6-bit one. -/
theorem decode_of_code62 {i : Instr} {p : BitVec 5} {j : BitVec 2} {a : BitVec 6} (hc : encode i = p ++ j ++ a)
    (hd : ∀ w : PWord, w.extractLsb' 8 5 = p → w.extractLsb' 6 2 = j → w.extractLsb' 0 6 = a → decode w = some i) :
    decode (encode i) = some i :=
  hc ▸ hd _ ((BitVec.extractLsb'_append_eq_of_le (by decide)).trans BitVec.extractLsb'_append_eq_left)
    ((BitVec.extractLsb'_append_eq_of_le (by decide)).trans BitVec.extractLsb'_append_eq_right)
    BitVec.extractLsb'_append_eq_right

/-- A code with a 6-bit field. Two of the bits 7 to 4 are the field's own, so the decoder must give the same for each of
their values. -/
theorem decode_of_code6 {i : Instr} {h : BitVec 7} {a : BitVec 6} (hc : encode i = h ++ a)
    (hd : ∀ (w : PWord) (t : BitVec 2), w.extractLsb' 8 5 = h.extractLsb' 2 5 →
      w.extractLsb' 4 4 = h.extractLsb' 0 2 ++ t → w.extractLsb' 0 6 = a → decode w = some i) :
    decode (encode i) = some i := by
  rw [hc]
  refine hd _ ((h ++ a : PWord).extractLsb' 4 2) (BitVec.extractLsb'_append_eq_of_le (by decide)) ?_
    BitVec.extractLsb'_append_eq_right
  rw [← extract_join _ 4 2 2]
  exact congrArg (· ++ _) (BitVec.extractLsb'_append_eq_of_le (by decide))

/-- A code with an 8-bit field. -/
theorem decode_of_code8 {i : Instr} {p : BitVec 5} {b : Byte} (hc : encode i = p ++ b)
    (hd : ∀ w : PWord, w.extractLsb' 8 5 = p → w.extractLsb' 0 8 = b → decode w = some i) :
    decode (encode i) = some i :=
  hc ▸ hd _ BitVec.extractLsb'_append_eq_left BitVec.extractLsb'_append_eq_right

/-- Settles O1, by the shape of the instruction's code; without an operand the code is one word. -/
theorem decodeOfEncode : Obligations.DecodeOfEncode := by
  intro i hwf
  cases i with
  | ldFImm4 k | andFImm4 k | orFImm4 k | xorFImm4 k =>
    exact decode_of_code4 rfl fun w hp hm hk => by
      rw [decode_page10 hp, decode10, hm, hk]
      rfl
  | subAImm4 k | subBImm4 k | subMemXImm4 k | subMemYImm4 k | subMemXIncImm4 k | subMemYIncImm4 k | sbcAImm4 k
  | sbcBImm4 k | sbcMemXImm4 k | sbcMemYImm4 k | sbcMemXIncImm4 k | sbcMemYIncImm4 k =>
    exact decode_of_code4 rfl fun w hp hm hk => by
      rw [decode_page18 hp, decode18, hm, hk]
      rfl
  | addAImm4 k | addBImm4 k | addMemXImm4 k | addMemYImm4 k | addMemXIncImm4 k | addMemYIncImm4 k | adcAImm4 k
  | adcBImm4 k | adcMemXImm4 k | adcMemYImm4 k | adcMemXIncImm4 k | adcMemYIncImm4 k =>
    exact decode_of_code4 rfl fun w hp hm hk => by
      rw [decode_page19 hp, decode19, hm, hk]
      rfl
  | andAImm4 k | andBImm4 k | andMemXImm4 k | andMemYImm4 k | andMemXIncImm4 k | andMemYIncImm4 k | bitAImm4 k
  | bitBImm4 k | bitMemXImm4 k | bitMemYImm4 k | bitMemXIncImm4 k | bitMemYIncImm4 k =>
    exact decode_of_code4 rfl fun w hp hm hk => by
      rw [decode_page1A hp, decode1A, hm, hk]
      rfl
  | orAImm4 k | orBImm4 k | orMemXImm4 k | orMemYImm4 k | orMemXIncImm4 k | orMemYIncImm4 k | xorAImm4 k | xorBImm4 k
  | xorMemXImm4 k | xorMemYImm4 k | xorMemXIncImm4 k | xorMemYIncImm4 k =>
    exact decode_of_code4 rfl fun w hp hm hk => by
      rw [decode_page1B hp, decode1B, hm, hk]
      rfl
  | ldAImm4 k | ldBImm4 k | ldMemXImm4 k | ldMemYImm4 k | ldMemXIncImm4 k | ldMemYIncImm4 k | cmpAImm4 k | cmpBImm4 k
  | cmpMemXImm4 k | cmpMemYImm4 k | cmpMemXIncImm4 k | cmpMemYIncImm4 k =>
    exact decode_of_code4 rfl fun w hp hm hk => by
      rw [decode_page1E hp, decode1E, hm, hk]
      rfl
  | sbcBAN4 n =>
    exact decode_of_code4 rfl fun w hp hm hk => by
      rw [decode_page10 hp, decode10, hm, hk, radixOfField_fieldOfRadix hwf]
      rfl
  | sbcBMemXN4 n | sbcBMemYN4 n | sbcBMemXIncN4 n | sbcBMemYIncN4 n | sbcMemXBN4 n | sbcMemYBN4 n | sbcMemXIncBN4 n
  | sbcMemYIncBN4 n | sbcMemXZeroN4 n | sbcMemYZeroN4 n | sbcMemXIncZeroN4 n | sbcMemYIncZeroN4 n | decMemXN4 n
  | decMemYN4 n | decMemXIncN4 n | decMemYIncN4 n =>
    exact decode_of_code4 rfl fun w hp hm hk => by
      rw [decode_page1C hp, decode1C, hm, hk, radixOfField_fieldOfRadix hwf]
      rfl
  | adcBAN4 n =>
    exact decode_of_code4 rfl fun w hp hm hk => by
      rw [decode_page10 hp, decode10, hm, hk, radixOfComplement_complementOfRadix hwf]
      rfl
  | adcBMemXN4 n | adcBMemYN4 n | adcBMemXIncN4 n | adcBMemYIncN4 n | adcMemXBN4 n | adcMemYBN4 n | adcMemXIncBN4 n
  | adcMemYIncBN4 n | adcMemXZeroN4 n | adcMemYZeroN4 n | adcMemXIncZeroN4 n | adcMemYIncZeroN4 n | incMemXN4 n
  | incMemYN4 n | incMemXIncN4 n | incMemYIncN4 n =>
    exact decode_of_code4 rfl fun w hp hm hk => by
      rw [decode_page1D hp, decode1D, hm, hk, radixOfComplement_complementOfRadix hwf]
      rfl
  | incMemAddr6 a | decMemAddr6 a =>
    exact decode_of_code6 rfl fun w t hp hm ha => by
      rw [decode_page10 hp, decode10, hm, ha]
      rcases pair_cases t with rfl | rfl | rfl | rfl <;> rfl
  | jrMemAddr6 a | calrMemAddr6 a | intImm6 a =>
    exact decode_of_code6 rfl fun w t hp hm ha => by
      rw [decode_page1F hp, decode1F, hm, ha]
      rcases pair_cases t with rfl | rfl | rfl | rfl <;> rfl
  | clrMem00Addr6Imm2 a j | clrMemFFAddr6Imm2 a j | setMem00Addr6Imm2 a j | setMemFFAddr6Imm2 a j
  | tstMem00Addr6Imm2 a j | tstMemFFAddr6Imm2 a j =>
    exact decode_of_code62 rfl fun w hp hj ha => by simp [decode, hp, hj, ha]
  | ldbBAImm8 b | ldbMemXIncImm8 b | ldbEXTImm8 b | ldbXLImm8 b | ldbYLImm8 b | addXSign8 b | addYSign8 b | jrSign8 b
  | jrcSign8 b | jrncSign8 b | jrzSign8 b | jrnzSign8 b | calzImm8 b | calrSign8 b | retdImm8 b | cmpXImm8 b
  | cmpYImm8 b => exact decode_of_code8 rfl fun w hp hb => by simp [decode, hp, hb]
  | _ => rfl

end Sys2Proof.Machine
end

section
/-! O2, O3: what a word has of the code of the instruction it decodes to, and which words are none (R74, R75). -/

namespace Sys2Proof.Machine

/-- What R73 to R75 ask of a word read as an instruction, or as none. A `Bool`, so that a table of words without operands
is checked by evaluating it. -/
def readsAs (w : PWord) : Option Instr → Bool
  | some i => i.wellFormed && decide (w &&& ~~~dontCareBits i = encode i &&& ~~~dontCareBits i)
  | none => decide (w ∈ reservedWords)

theorem readsAs_some {w : PWord} {i : Instr} :
    readsAs w (some i) = true ↔ i.wellFormed = true ∧ w &&& ~~~dontCareBits i = encode i &&& ~~~dontCareBits i := by
  simp [readsAs]

theorem readsAs_none {w : PWord} : readsAs w none = true ↔ w ∈ reservedWords := by simp [readsAs]

theorem readsAs_code {w : PWord} {i : Instr} (hwf : i.wellFormed = true) (hw : w = encode i) :
    readsAs w (some i) = true := readsAs_some.2 ⟨hwf, by rw [← hw]⟩

/-- A table over bits 3 to 0 is right if it is for each of the 16 words it is asked about. -/
theorem readsAs_table {w : PWord} {p : BitVec 5} {m : Nibble} {table : PWord → Option Instr}
    (hp : w.extractLsb' 8 5 = p) (hm : w.extractLsb' 4 4 = m)
    (ht : ∀ k : Nibble, readsAs (p ++ m ++ k) (table (p ++ m ++ k)) = true) : readsAs w (table w) = true := by
  rw [word_of_digits hp hm rfl]
  exact ht _

/-! ### The pages of the decoder -/

theorem decode10_readsAs {w : PWord} (hp : w.extractLsb' 8 5 = 0x10#5) : readsAs w (decode10 w) = true := by
  unfold decode10
  split
  case h_1 hm | h_2 hm | h_3 hm | h_4 hm | h_5 hm | h_6 hm | h_7 hm | h_8 hm =>
    exact readsAs_code rfl (word_of_addr6 hp hm (by decide))
  case h_9 hm | h_10 hm | h_11 hm | h_12 hm => exact readsAs_code rfl (word_of_digits hp hm (by decide))
  case h_13 hm => exact readsAs_code (radixOk_radixOfField _) (word_of_radixField hp hm (by decide))
  case h_14 hm => exact readsAs_code (radixOk_radixOfComplement _) (word_of_radixComplement hp hm (by decide))
  case h_15 hm => exact readsAs_table hp hm (by decide)
  case h_16 =>
    have hm : w.extractLsb' 4 4 = 0xF#4 := by have := nibble_cases (w.extractLsb' 4 4); tauto
    exact readsAs_table hp hm (by decide)

theorem decode18_readsAs {w : PWord} (hp : w.extractLsb' 8 5 = 0x18#5) : readsAs w (decode18 w) = true := by
  unfold decode18
  split
  case h_7 hm | h_8 hm | h_15 hm => exact readsAs_table hp hm (by decide)
  case h_16 =>
    have hm : w.extractLsb' 4 4 = 0xF#4 := by have := nibble_cases (w.extractLsb' 4 4); tauto
    exact readsAs_table hp hm (by decide)
  all_goals
    rename_i hm
    exact readsAs_code rfl (word_of_digits hp hm (by decide))

theorem decode19_readsAs {w : PWord} (hp : w.extractLsb' 8 5 = 0x19#5) : readsAs w (decode19 w) = true := by
  unfold decode19
  split
  case h_7 hm | h_8 hm | h_15 hm => exact readsAs_table hp hm (by decide)
  case h_16 =>
    have hm : w.extractLsb' 4 4 = 0xF#4 := by have := nibble_cases (w.extractLsb' 4 4); tauto
    exact readsAs_table hp hm (by decide)
  all_goals
    rename_i hm
    exact readsAs_code rfl (word_of_digits hp hm (by decide))

theorem decode1A_readsAs {w : PWord} (hp : w.extractLsb' 8 5 = 0x1A#5) : readsAs w (decode1A w) = true := by
  unfold decode1A
  split
  case h_7 hm | h_8 hm | h_15 hm => exact readsAs_table hp hm (by decide)
  case h_16 =>
    have hm : w.extractLsb' 4 4 = 0xF#4 := by have := nibble_cases (w.extractLsb' 4 4); tauto
    exact readsAs_table hp hm (by decide)
  all_goals
    rename_i hm
    exact readsAs_code rfl (word_of_digits hp hm (by decide))

theorem decode1B_readsAs {w : PWord} (hp : w.extractLsb' 8 5 = 0x1B#5) : readsAs w (decode1B w) = true := by
  unfold decode1B
  split
  case h_7 hm | h_8 hm | h_15 hm => exact readsAs_table hp hm (by decide)
  case h_16 =>
    have hm : w.extractLsb' 4 4 = 0xF#4 := by have := nibble_cases (w.extractLsb' 4 4); tauto
    exact readsAs_table hp hm (by decide)
  all_goals
    rename_i hm
    exact readsAs_code rfl (word_of_digits hp hm (by decide))

theorem decode1E_readsAs {w : PWord} (hp : w.extractLsb' 8 5 = 0x1E#5) : readsAs w (decode1E w) = true := by
  unfold decode1E
  split
  case h_7 hm | h_8 hm | h_15 hm => exact readsAs_table hp hm (by decide)
  case h_16 =>
    have hm : w.extractLsb' 4 4 = 0xF#4 := by have := nibble_cases (w.extractLsb' 4 4); tauto
    exact readsAs_table hp hm (by decide)
  all_goals
    rename_i hm
    exact readsAs_code rfl (word_of_digits hp hm (by decide))

theorem decode1C_readsAs {w : PWord} (hp : w.extractLsb' 8 5 = 0x1C#5) : readsAs w (decode1C w) = true := by
  unfold decode1C
  split
  case h_16 =>
    have hm : w.extractLsb' 4 4 = 0xF#4 := by have := nibble_cases (w.extractLsb' 4 4); tauto
    exact readsAs_code (radixOk_radixOfField _) (word_of_radixField hp hm (by decide))
  all_goals
    rename_i hm
    exact readsAs_code (radixOk_radixOfField _) (word_of_radixField hp hm (by decide))

theorem decode1D_readsAs {w : PWord} (hp : w.extractLsb' 8 5 = 0x1D#5) : readsAs w (decode1D w) = true := by
  unfold decode1D
  split
  case h_16 =>
    have hm : w.extractLsb' 4 4 = 0xF#4 := by have := nibble_cases (w.extractLsb' 4 4); tauto
    exact readsAs_code (radixOk_radixOfComplement _) (word_of_radixComplement hp hm (by decide))
  all_goals
    rename_i hm
    exact readsAs_code (radixOk_radixOfComplement _) (word_of_radixComplement hp hm (by decide))

theorem decode1F_readsAs {w : PWord} (hp : w.extractLsb' 8 5 = 0x1F#5) : readsAs w (decode1F w) = true := by
  unfold decode1F
  split
  case h_16 =>
    have hm : w.extractLsb' 4 4 = 0xF#4 := by have := nibble_cases (w.extractLsb' 4 4); tauto
    exact readsAs_table hp hm (by decide)
  case h_13 hm | h_14 hm | h_15 hm => exact readsAs_table hp hm (by decide)
  all_goals
    rename_i hm
    exact readsAs_code rfl (word_of_addr6 hp hm (by decide))

/-- Every word reads as what it decodes to, by the pages of the decoder. -/
theorem decode_readsAs (w : PWord) : readsAs w (decode w) = true := by
  unfold decode
  split
  case h_15 hp | h_16 hp => exact readsAs_code rfl (word_of_notByte hp)
  case h_17 hp => exact decode10_readsAs hp
  case h_19 hp | h_20 hp | h_21 hp | h_22 hp | h_23 hp | h_24 hp =>
    exact readsAs_code rfl (word_of_fixed7 hp rfl rfl)
  case h_25 hp => exact decode18_readsAs hp
  case h_26 hp => exact decode19_readsAs hp
  case h_27 hp => exact decode1A_readsAs hp
  case h_28 hp => exact decode1B_readsAs hp
  case h_29 hp => exact decode1C_readsAs hp
  case h_30 hp => exact decode1D_readsAs hp
  case h_31 hp => exact decode1E_readsAs hp
  case h_32 =>
    have hp : w.extractLsb' 8 5 = 0x1F#5 := by have := opcode_cases (w.extractLsb' 8 5); tauto
    exact decode1F_readsAs hp
  all_goals
    rename_i hp
    exact readsAs_code rfl (word_of_byte hp)

/-! ### Don't-care bits (R74) -/

/-- An instruction has one don't-care bit at most; it is 0 in the code, and the decoder does not look at it. -/
theorem dontCareBits_cases (i : Instr) : dontCareBits i = 0#13 ∨
    ∃ n, dontCareBits i = BitVec.twoPow 13 n ∧ encode i &&& BitVec.twoPow 13 n = 0#13 ∧
      decode (encode i ||| BitVec.twoPow 13 n) = some i := by
  cases i with
  | adcAA | adcAB | adcBA | adcBB | addAA | addAB | addBA | addBB | addXBA | addYBA | andAA | andAB | andBA | andBB
  | bitAA | bitAB | bitBA | bitBB | jpY | ldbBAEXT | ldbBASP1 | ldbBASP2 | ldbEXTBA | ldbSP1BA | ldbSP2BA | nop
  | orAA | orAB | orBA | orBB | popY | pushY | sbcAA | sbcAB | sbcBA | sbcBB | subAA | subAB | subBA | subBB | xorAA
  | xorAB | xorBA | xorBB => exact .inr ⟨0, rfl, rfl, rfl⟩
  | cmpAA | cmpAB | cmpBA | cmpBB => exact .inr ⟨3, rfl, rfl, rfl⟩
  | ret => exact .inr ⟨1, rfl, rfl, rfl⟩
  | _ => exact .inl rfl

/-- A word that agrees with a code outside a mask is that code with its own bits in the mask. -/
theorem eq_or_of_masked_eq {w e m : PWord} (h : w &&& ~~~m = e &&& ~~~m) (he : e &&& m = 0#13) : w = e ||| (w &&& m) := by
  ext n hn
  have hbit : ∀ x y z : Bool, (x && !z) = (y && !z) → (y && z) = false → x = (y || (x && z)) := by decide
  simpa using hbit w[n] e[n] m[n] (by simpa using congrArg (·[n]) h) (by simpa using congrArg (·[n]) he)

theorem decode_of_masked_eq {w : PWord} {i : Instr} (hwf : i.wellFormed = true)
    (h : w &&& ~~~dontCareBits i = encode i &&& ~~~dontCareBits i) : decode w = some i := by
  obtain h0 | ⟨n, hn, he, hd⟩ := dontCareBits_cases i
  · have hw : w = encode i := by simpa only [h0, BitVec.not_zero, BitVec.and_allOnes] using h
    rw [hw]
    exact decodeOfEncode i hwf
  · rw [hn] at h
    rw [eq_or_of_masked_eq h he, BitVec.and_twoPow]
    split
    · exact hd
    · rw [BitVec.or_zero]
      exact decodeOfEncode i hwf

/-- Settles O2: a decoded word reads as its instruction, and the decoder passes over don't-care bits. -/
theorem decodeUpToDontCareBits : Obligations.DecodeUpToDontCareBits := by
  refine ⟨fun w i => ⟨fun h => readsAs_some.1 (h ▸ decode_readsAs w), fun ⟨hwf, h⟩ => decode_of_masked_eq hwf h⟩, ?_⟩
  intro i
  obtain h0 | ⟨n, hn, he, -⟩ := dontCareBits_cases i
  · rw [h0, BitVec.and_zero]
  · rw [hn, he]

/-! ### Unassigned words (R75) -/

theorem decode_reserved : ∀ w ∈ reservedWords, decode w = none := by
  have hall : reservedWords.all (fun w => (decode w).isNone) = true := rfl
  simpa using hall

theorem decode_none_iff {w : PWord} : decode w = none ↔ w ∈ reservedWords :=
  ⟨fun h => readsAs_none.1 (h ▸ decode_readsAs w), decode_reserved w⟩

theorem runInstruction_of_decode_none {s : State} {w : PWord} (hf : fetch s = .ok w) (hd : decode w = none) :
    runInstruction s = .fault (.reservedEncoding s.pc w) := by
  simp [runInstruction, hf, hd]

/-- Settles O3 (`reservedWords` itself is the table): a word that is no code reads as one of the table, and the table's
words decode to nothing. -/
theorem reservedWords_unassigned : Obligations.ReservedWords := by
  refine ⟨rfl, by decide, fun w => decode_none_iff, fun s w hq hf hw => ?_⟩
  have hf' : fetch (afterInput s) = .ok w := hf
  rw [step_of_quiet hq, runInstruction_of_decode_none hf' (decode_none_iff.2 hw)]
  rfl

end Sys2Proof.Machine
end

section
/-! O4, O5: printed words, and the step that runs a decoded one. -/

namespace Sys2Proof.Machine

/-- Settles O4: each printed word decoded. -/
theorem printedWordsDecode : Obligations.PrintedWordsDecode :=
  ⟨rfl, rfl, rfl, rfl, rfl, rfl, rfl, rfl, rfl, rfl, rfl, rfl, rfl⟩

/-- Settles O5: a boundary with nothing to take goes on with the instruction at PC. -/
theorem stepRunsDecodedInstruction : Obligations.StepRunsDecodedInstruction := by
  refine ⟨fun s w i hq hf hd => ?_, fun s inp rest w i hin hrun hi hr hacc hf hd => ?_⟩
  · have hf' : fetch (afterInput s) = .ok w := hf
    rw [step_of_quiet hq, runInstruction_of_decode hf' hd]
  · have hf' : fetch (latchNmi inp (afterInput s)) = .ok w := hf
    calc step s = atBoundary inp runInstruction (afterInput s) := boundary_cons hin
      _ = runInstruction (latchNmi inp (afterInput s)) := atBoundary_run hi hr hacc hrun
      _ = exec i (latchNmi inp (afterInput s)) := runInstruction_of_decode hf' hd

end Sys2Proof.Machine
end

section
/-! The 4-bit transfers, and that they complete: O35, O36, O37. -/

namespace Sys2Proof.Machine

/-! ### The end of a transfer -/

/-- A transfer goes on after the address it started at, whatever it did to the other registers. -/
theorem retire_of_pc {s t : State} (n : Nat) (h : t.pc = s.pc) : t.retire n = endedSameCZ t n (nextPc s) := by
  rw [retire_eq_endedSameCZ, nextPc, h, nextPc]

/-! ### Transfers inside the core (R101, R102, R109) -/

theorem putReg_completes {s : State} (r : Reg) (v : Nibble) (hE : flagE s.f = false) :
    putReg r v s = .next (endedSameCZ (s.setReg r v) 1 (nextPc s)) :=
  putReg_next.2 ⟨hE, (retire_of_pc 1 (setReg_pc s r v)).symm⟩

theorem exec_ldRegReg (r q : Reg) (s : State) : exec (ldRegReg r q) s = putReg r (s.reg q) s := by
  cases r <;> cases q <;> rfl

theorem exec_ldRegImm (r : Reg) (i : Nibble) (s : State) : exec (ldRegImm r i) s = putReg r i s := by
  cases r <;> rfl

/-- Settles O35: the loads mean `putReg` of the value they take. -/
theorem registerTransfers : Obligations.RegisterTransfers := by
  intro s hE
  simp only [exec_ldRegReg, exec_ldRegImm]
  exact ⟨fun r q => putReg_completes r (s.reg q) hE, fun r i => putReg_completes r i hE, putReg_completes .a s.f hE,
    execExAB_next.2 ⟨hE, rfl⟩⟩

/-! ### Loads and stores (R103 to R108) -/

section
variable {r : Reg} {k : Idx} {s s1 : State} {v : Nibble}

theorem loadMem_completes (h : readWord s (eaInd s k) = .ok (v, s1)) :
    loadMem r k s = .next (endedSameCZ (s1.setReg r v) 1 (nextPc s)) := by
  have hpc : (s1.setReg r v).pc = s.pc := (setReg_pc s1 r v).trans (readWord_sameCore h).1.pc
  exact loadMem_next.2 ⟨v, s1, h, (retire_of_pc 1 hpc).symm⟩

theorem loadMemInc_completes (hE : flagE s.f = false) (h : readWord s (s.idx k) = .ok (v, s1)) :
    loadMemInc r k s = .next (endedSameCZ ((s1.setReg r v).bump k 1#16) 1 (nextPc s)) := by
  have hpc : ((s1.setReg r v).bump k 1#16).pc = s.pc := by rw [bump_pc, setReg_pc, (readWord_sameCore h).1.pc]
  exact loadMemInc_next.2 ⟨hE, v, s1, h, (retire_of_pc 1 hpc).symm⟩

theorem storeMem_completes (h : writeWord s (eaInd s k) v = .ok s1) :
    storeMem k v s = .next (endedSameCZ s1 1 (nextPc s)) :=
  storeMem_next.2 ⟨s1, h, (retire_of_pc 1 (writeWord_sameCore h).pc).symm⟩

theorem storeMemInc_completes (hE : flagE s.f = false) (h : writeWord s (s.idx k) v = .ok s1) :
    storeMemInc k v s = .next (endedSameCZ (s1.bump k 1#16) 1 (nextPc s)) := by
  have hpc : (s1.bump k 1#16).pc = s.pc := (bump_pc s1 k _).trans (writeWord_sameCore h).pc
  exact storeMemInc_next.2 ⟨hE, s1, h, (retire_of_pc 1 hpc).symm⟩

end

theorem exec_ldRegMem (r : Reg) (k : Idx) (s : State) : exec (ldRegMem r k) s = loadMem r k s := by
  cases r <;> cases k <;> rfl

theorem exec_ldRegMemInc (r : Reg) (k : Idx) (s : State) : exec (ldRegMemInc r k) s = loadMemInc r k s := by
  cases r <;> cases k <;> rfl

theorem exec_ldMemReg (k : Idx) (r : Reg) (s : State) : exec (ldMemReg k r) s = storeMem k (s.reg r) s := by
  cases k <;> cases r <;> rfl

theorem exec_ldMemImm (k : Idx) (i : Nibble) (s : State) : exec (ldMemImm k i) s = storeMem k i s := by
  cases k <;> rfl

theorem exec_ldMemIncReg (k : Idx) (r : Reg) (s : State) : exec (ldMemIncReg k r) s = storeMemInc k (s.reg r) s := by
  cases k <;> cases r <;> rfl

theorem exec_ldMemIncImm (k : Idx) (i : Nibble) (s : State) : exec (ldMemIncImm k i) s = storeMemInc k i s := by
  cases k <;> rfl

/-- Settles O36: a load reads once, a store writes once, and neither access moves the PC. -/
theorem loadsAndStores : Obligations.LoadsAndStores := by
  intro r k s s1 v
  simp only [exec_ldRegMem, exec_ldRegMemInc, exec_ldMemReg, exec_ldMemImm, exec_ldMemIncReg, exec_ldMemIncImm]
  exact ⟨loadMem_completes, loadMemInc_completes, storeMem_completes, storeMem_completes, storeMemInc_completes,
    storeMemInc_completes⟩

/-! ### Copies and exchanges (R110 to R115) -/

section
variable {r : Reg} {k j : Idx} {s s1 s2 : State} {v : Nibble}

theorem readWord_writeWord_pc {a b : Addr} {w : Nibble} (h1 : readWord s a = .ok (v, s1))
    (h2 : writeWord s1 b w = .ok s2) : s2.pc = s.pc :=
  (writeWord_sameCore h2).pc.trans (readWord_sameCore h1).1.pc

theorem copyMem_completes {m n : Addr} (hE : flagE s.f = false) (h1 : readWord s (s.idx j) = .ok (v, s1))
    (h2 : writeWord s1 (s.idx k) v = .ok s2) :
    copyMem k m j n s = .next (endedSameCZ ((s2.bump k m).bump j n) 2 (nextPc s)) := by
  have hpc : ((s2.bump k m).bump j n).pc = s.pc := by rw [bump_pc, bump_pc, readWord_writeWord_pc h1 h2]
  exact copyMem_next.2 ⟨hE, v, s1, s2, h1, h2, (retire_of_pc 2 hpc).symm⟩

theorem exchangeMem_completes (h1 : readWord s (eaInd s k) = .ok (v, s1))
    (h2 : writeWord s1 (eaInd s k) (s.reg r) = .ok s2) :
    exchangeMem r k s = .next (endedSameCZ (s2.setReg r v) 2 (nextPc s)) := by
  have hpc : (s2.setReg r v).pc = s.pc := (setReg_pc s2 r v).trans (readWord_writeWord_pc h1 h2)
  exact exchangeMem_next.2 ⟨_, exchangeAt_ok.2 ⟨v, s1, s2, h1, h2, rfl⟩, (retire_of_pc 2 hpc).symm⟩

theorem exchangeMemInc_completes (hE : flagE s.f = false) (h1 : readWord s (s.idx k) = .ok (v, s1))
    (h2 : writeWord s1 (s.idx k) (s.reg r) = .ok s2) :
    exchangeMemInc r k s = .next (endedSameCZ ((s2.setReg r v).bump k 1#16) 2 (nextPc s)) := by
  have hpc : ((s2.setReg r v).bump k 1#16).pc = s.pc := by rw [bump_pc, setReg_pc, readWord_writeWord_pc h1 h2]
  exact exchangeMemInc_next.2 ⟨hE, _, exchangeAt_ok.2 ⟨v, s1, s2, h1, h2, rfl⟩, (retire_of_pc 2 hpc).symm⟩

end

theorem exec_ldMemMem (k : Idx) (dstInc srcInc : Bool) (s : State) : exec (ldMemMem k dstInc srcInc) s =
    copyMem k (if dstInc then 1#16 else 0#16) (otherIdx k) (if srcInc then 1#16 else 0#16) s := by
  cases k <;> cases dstInc <;> cases srcInc <;> rfl

theorem exec_exRegMem (r : Reg) (k : Idx) (s : State) : exec (exRegMem r k) s = exchangeMem r k s := by
  cases r <;> cases k <;> rfl

theorem exec_exRegMemInc (r : Reg) (k : Idx) (s : State) : exec (exRegMemInc r k) s = exchangeMemInc r k s := by
  cases r <;> cases k <;> rfl

/-- Settles O37: the copies mean `copyMem` from the other index register, the exchanges `exchangeAt`. -/
theorem copiesAndExchanges : Obligations.CopiesAndExchanges := by
  intro k s s1 s2 v
  simp only [exec_ldMemMem, exec_exRegMem, exec_exRegMemInc]
  exact ⟨fun hE h1 h2 _ _ => copyMem_completes hE h1 h2, fun _ => ⟨exchangeMem_completes, exchangeMemInc_completes⟩⟩

end Sys2Proof.Machine
end

section
/-! Binary addition, subtraction and comparison against exact integers: O21 (R121). -/

namespace Sys2Proof.Machine

theorem carryIn_eq_toNat (c : Bool) : carryIn c = c.toNat := by cases c <;> rfl

/-- Z of a result says whether it is 0 (R20). -/
theorem aluOut_z_iff (r : Nibble) (c : Bool) : (aluOut r c).z = true ↔ r = 0#4 := by
  rw [aluOut_z, decide_eq_true_iff]

section
variable (x y : Nibble) (cin : Bool)

theorem add4_res_toNat : (add4 x y cin).res.toNat = (x.toNat + y.toNat + cin.toNat) % 16 := by
  rw [add4, aluOut_res, BitVec.toNat_ofNat, carryIn_eq_toNat]

theorem add4_c_iff : (add4 x y cin).c = true ↔ 16 ≤ x.toNat + y.toNat + cin.toNat := by
  rw [add4, aluOut_c, decide_eq_true_iff, carryIn_eq_toNat]

theorem add4_z_iff : (add4 x y cin).z = true ↔ (add4 x y cin).res = 0#4 := aluOut_z_iff _ _

theorem sub4_res_toNat : ((sub4 x y cin).res.toNat : Int) = ((x.toNat : Int) - y.toNat - cin.toNat) % 16 := by
  rw [sub4, aluOut_res, BitVec.toNat_ofInt, carryIn_eq_toNat]
  exact Int.toNat_of_nonneg (Int.emod_nonneg _ (by decide))

theorem sub4_c_iff : (sub4 x y cin).c = true ↔ (x.toNat : Int) - y.toNat - cin.toNat < 0 := by
  rw [sub4, aluOut_c, decide_eq_true_iff, carryIn_eq_toNat]

/-- The borrow as a comparison of what is subtracted with what it is subtracted from. -/
theorem sub4_c_iff_lt : (sub4 x y cin).c = true ↔ x.toNat < y.toNat + cin.toNat := by
  rw [sub4_c_iff]
  omega

theorem sub4_z_iff : (sub4 x y cin).z = true ↔ (sub4 x y cin).res = 0#4 := aluOut_z_iff _ _

end

/-- Settles O21: ADC and SBC are `add4` and `sub4` with the old C, ADD, SUB and CMP the same with 0 for it. -/
theorem binaryArithmetic : Obligations.BinaryArithmetic := by
  intro cin x y
  refine ⟨?adc, ?add, ?sbc, ?sub, rfl⟩
  case adc => exact ⟨add4_res_toNat x y cin, add4_c_iff x y cin, add4_z_iff x y cin⟩
  case add => exact ⟨add4_res_toNat x y false, add4_c_iff x y false, add4_z_iff x y false⟩
  case sbc => exact ⟨sub4_res_toNat x y cin, sub4_c_iff x y cin, sub4_c_iff_lt x y cin, sub4_z_iff x y cin⟩
  case sub =>
    have hborrow : (x.toNat : Int) - y.toNat - false.toNat = x.toNat - y.toNat := Int.sub_zero _
    exact ⟨hborrow ▸ sub4_res_toNat x y false, hborrow ▸ sub4_c_iff x y false, sub4_c_iff_lt x y false,
      sub4_z_iff x y false⟩

end Sys2Proof.Machine
end

section
/-! The forms with two 4-bit operands, and that they complete: O26, O27, O28, O29 (R120, R210). -/

namespace Sys2Proof.Machine

/-! ### The end of an operation -/

theorem SameCore.reg {s t : State} (h : SameCore s t) (r : Reg) : t.reg r = s.reg r := by
  cases r with
  | a => exact h.a
  | b => exact h.b

theorem bump_setCZ (s : State) (c z : Bool) (k : Idx) (n : Addr) :
    (s.setCZ c z).bump k n = (s.bump k n).setCZ c z := by
  cases k <;> rfl

/-- An operation that sets C and Z last goes on after the address it started at. -/
theorem retire_setCZ_of_pc {s t : State} (n : Nat) (c z : Bool) (h : t.pc = s.pc) :
    (t.setCZ c z).retire n = ended t n (nextPc s) c z := by
  rw [retire_setCZ, nextPc, h, nextPc]

/-- After an access the register operand and the old C are those the instruction started with. -/
theorem aluReg_of_sameCore {s t : State} (h : SameCore s t) (op : AluOp) (r : Reg) (y : Nibble) :
    aluReg op r y t = (t.setReg r (op (flagC s.f) (s.reg r) y).res).setCZ (op (flagC s.f) (s.reg r) y).c
      (op (flagC s.f) (s.reg r) y).z := by
  rw [← h.f, ← h.reg r, aluReg]

theorem aluTest_of_sameCore {s t : State} (h : SameCore s t) (op : AluOp) (x y : Nibble) :
    aluTest op x y t = t.setCZ (op (flagC s.f) x y).c (op (flagC s.f) x y).z := by
  rw [← h.f, aluTest]

/-! ### The operand forms complete -/

section
variable {n : Nat} {op : AluOp} {r : Reg} {k : Idx} {s s1 : State} {y : Nibble} {o : AluOut}

theorem regForm_completes (hE : flagE s.f = false) (ho : op (flagC s.f) (s.reg r) y = o) :
    regForm n op r y s = .next (ended (s.setReg r o.res) n (nextPc s) o.c o.z) := by
  subst ho
  refine regForm_next.2 ⟨hE, ?_⟩
  rw [aluReg_of_sameCore (.refl s), retire_setCZ_of_pc n _ _ (setReg_pc s r _)]

theorem regMemForm_completes (ho : op (flagC s.f) (s.reg r) y = o) (h : readWord s (eaInd s k) = .ok (y, s1)) :
    regMemForm n op r k s = .next (ended (s1.setReg r o.res) n (nextPc s) o.c o.z) := by
  subst ho
  obtain ⟨hcore, -⟩ := readWord_sameCore h
  refine regMemForm_next.2 ⟨y, s1, h, ?_⟩
  rw [aluReg_of_sameCore hcore, retire_setCZ_of_pc n _ _ ((setReg_pc s1 r _).trans hcore.pc)]

theorem regMemIncForm_completes (ho : op (flagC s.f) (s.reg r) y = o) (hE : flagE s.f = false)
    (h : readWord s (s.idx k) = .ok (y, s1)) :
    regMemIncForm n op r k s = .next (ended ((s1.setReg r o.res).bump k 1#16) n (nextPc s) o.c o.z) := by
  subst ho
  obtain ⟨hcore, -⟩ := readWord_sameCore h
  have hpc : ∀ v : Nibble, ((s1.setReg r v).bump k 1#16).pc = s.pc := fun v => by rw [bump_pc, setReg_pc, hcore.pc]
  refine regMemIncForm_next.2 ⟨hE, y, s1, h, ?_⟩
  rw [aluReg_of_sameCore hcore, bump_setCZ, retire_setCZ_of_pc n _ _ (hpc _)]

theorem regTest_completes (hE : flagE s.f = false) (ho : op (flagC s.f) (s.reg r) y = o) :
    regTest op r y s = .next (ended s 1 (nextPc s) o.c o.z) := by
  subst ho
  refine regTest_next.2 ⟨hE, ?_⟩
  rw [aluTest, retire_setCZ]

theorem regMemTest_completes (ho : op (flagC s.f) (s.reg r) y = o) (h : readWord s (eaInd s k) = .ok (y, s1)) :
    regMemTest op r k s = .next (ended s1 1 (nextPc s) o.c o.z) := by
  subst ho
  obtain ⟨hcore, -⟩ := readWord_sameCore h
  refine regMemTest_next.2 ⟨y, s1, h, ?_⟩
  rw [aluTest_of_sameCore hcore, retire_setCZ_of_pc 1 _ _ hcore.pc]

theorem regMemIncTest_completes (ho : op (flagC s.f) (s.reg r) y = o) (hE : flagE s.f = false)
    (h : readWord s (s.idx k) = .ok (y, s1)) :
    regMemIncTest op r k s = .next (ended (s1.bump k 1#16) 1 (nextPc s) o.c o.z) := by
  subst ho
  obtain ⟨hcore, -⟩ := readWord_sameCore h
  refine regMemIncTest_next.2 ⟨hE, y, s1, h, ?_⟩
  rw [aluTest_of_sameCore hcore, bump_setCZ, retire_setCZ_of_pc 1 _ _ ((bump_pc s1 k _).trans hcore.pc)]

/-- An instruction that means `memForm` modifies the word at `[%ir]` (R55). -/
theorem modifiesWord_of_memForm {i : Instr} (hi : exec i s = memForm n op k y s) :
    ModifiesWord i n op (eaInd s k) y id s := by
  rintro x s1 s2 o hr rfl hw
  refine hi.trans (memForm_next.2 ⟨_, modifyAt_ok.2 ⟨x, s1, s2, hr, hw, rfl⟩, ?_⟩)
  rw [retire_setCZ_of_pc n _ _ (readWord_writeWord_pc hr hw), id]

/-- An instruction that means `memIncForm` modifies the word at `[%ir]`, then increments the index register (R55). -/
theorem modifiesWord_of_memIncForm {i : Instr} (hE : flagE s.f = false) (hi : exec i s = memIncForm n op k y s) :
    ModifiesWord i n op (s.idx k) y (·.bump k 1#16) s := by
  rintro x s1 s2 o hr rfl hw
  have hpc : (s2.bump k 1#16).pc = s.pc := (bump_pc s2 k _).trans (readWord_writeWord_pc hr hw)
  refine hi.trans (memIncForm_next.2 ⟨hE, _, modifyAt_ok.2 ⟨x, s1, s2, hr, hw, rfl⟩, ?_⟩)
  rw [bump_setCZ, retire_setCZ_of_pc n _ _ hpc]

/-- An instruction that means `memTest` tests the word at `[%ir]` (R54). -/
theorem testsWord_of_memTest {i : Instr} (hi : exec i s = memTest op k y s) : TestsWord i op (eaInd s k) y id s := by
  rintro x s1 o hr rfl
  obtain ⟨hcore, -⟩ := readWord_sameCore hr
  refine hi.trans (memTest_next.2 ⟨_, testAt_ok.2 ⟨x, s1, hr, rfl⟩, ?_⟩)
  rw [aluTest_of_sameCore hcore, retire_setCZ_of_pc 1 _ _ hcore.pc, id]

/-- An instruction that means `memIncTest` tests the word at `[%ir]`, then increments the index register (R54). -/
theorem testsWord_of_memIncTest {i : Instr} (hE : flagE s.f = false) (hi : exec i s = memIncTest op k y s) :
    TestsWord i op (s.idx k) y (·.bump k 1#16) s := by
  rintro x s1 o hr rfl
  obtain ⟨hcore, -⟩ := readWord_sameCore hr
  refine hi.trans (memIncTest_next.2 ⟨hE, _, testAt_ok.2 ⟨x, s1, hr, rfl⟩, ?_⟩)
  rw [aluTest_of_sameCore hcore, bump_setCZ, retire_setCZ_of_pc 1 _ _ ((bump_pc s1 k _).trans hcore.pc)]

end

/-! ### ADD, ADC, SUB, SBC, AND, OR and XOR by operand form -/

section
variable (op : BinOp) (r q : Reg) (k : Idx) (i : Nibble) (s : State)

theorem exec_binOp_regReg : exec (op.regReg r q) s = regForm 1 op.alu r (s.reg q) s := by
  cases op <;> cases r <;> cases q <;> rfl

theorem exec_binOp_regImm : exec (op.regImm r i) s = regForm 1 op.alu r i s := by
  cases op <;> cases r <;> rfl

theorem exec_binOp_regMem : exec (op.regMem r k) s = regMemForm 1 op.alu r k s := by
  cases op <;> cases r <;> cases k <;> rfl

theorem exec_binOp_regMemInc : exec (op.regMemInc r k) s = regMemIncForm 1 op.alu r k s := by
  cases op <;> cases r <;> cases k <;> rfl

theorem exec_binOp_memReg : exec (op.memReg k r) s = memForm 2 op.alu k (s.reg r) s := by
  cases op <;> cases k <;> cases r <;> rfl

theorem exec_binOp_memImm : exec (op.memImm k i) s = memForm 2 op.alu k i s := by
  cases op <;> cases k <;> rfl

theorem exec_binOp_memIncReg : exec (op.memIncReg k r) s = memIncForm 2 op.alu k (s.reg r) s := by
  cases op <;> cases k <;> cases r <;> rfl

theorem exec_binOp_memIncImm : exec (op.memIncImm k i) s = memIncForm 2 op.alu k i s := by
  cases op <;> cases k <;> rfl

end

/-- Settles O26: both forms mean `regForm` with the value of their second operand. -/
theorem binaryOnRegisters : Obligations.BinaryOnRegisters := by
  intro op r s o hE
  refine ⟨fun q ho => ?_, fun i ho => ?_⟩
  · rw [exec_binOp_regReg]
    exact regForm_completes hE ho
  · rw [exec_binOp_regImm]
    exact regForm_completes hE ho

/-- Settles O27: the read leaves the register operand, C and the PC as they were. -/
theorem binaryFromMemory : Obligations.BinaryFromMemory := by
  intro op r k s s1 y o ho
  rw [exec_binOp_regMem, exec_binOp_regMemInc]
  exact ⟨regMemForm_completes ho, regMemIncForm_completes ho⟩

/-- Settles O28: every form means `memForm` or `memIncForm` with the value of its second operand. -/
theorem binaryToMemory : Obligations.BinaryToMemory := fun op k s =>
  ⟨fun r => modifiesWord_of_memForm (exec_binOp_memReg op r k s),
    fun i => modifiesWord_of_memForm (exec_binOp_memImm op k i s),
    fun hE => ⟨fun r => modifiesWord_of_memIncForm hE (exec_binOp_memIncReg op r k s),
      fun i => modifiesWord_of_memIncForm hE (exec_binOp_memIncImm op k i s)⟩⟩

/-! ### CMP and BIT by operand form -/

section
variable (op : TestOp) (r q : Reg) (k : Idx) (i : Nibble) (s : State)

theorem exec_testOp_regReg : exec (op.regReg r q) s = regTest op.alu r (s.reg q) s := by
  cases op <;> cases r <;> cases q <;> rfl

theorem exec_testOp_regImm : exec (op.regImm r i) s = regTest op.alu r i s := by
  cases op <;> cases r <;> rfl

theorem exec_testOp_regMem : exec (op.regMem r k) s = regMemTest op.alu r k s := by
  cases op <;> cases r <;> cases k <;> rfl

theorem exec_testOp_regMemInc : exec (op.regMemInc r k) s = regMemIncTest op.alu r k s := by
  cases op <;> cases r <;> cases k <;> rfl

theorem exec_testOp_memReg : exec (op.memReg k r) s = memTest op.alu k (s.reg r) s := by
  cases op <;> cases k <;> cases r <;> rfl

theorem exec_testOp_memImm : exec (op.memImm k i) s = memTest op.alu k i s := by
  cases op <;> cases k <;> rfl

theorem exec_testOp_memIncReg : exec (op.memIncReg k r) s = memIncTest op.alu k (s.reg r) s := by
  cases op <;> cases k <;> cases r <;> rfl

theorem exec_testOp_memIncImm : exec (op.memIncImm k i) s = memIncTest op.alu k i s := by
  cases op <;> cases k <;> rfl

end

/-- Settles O29: with a register as first operand the forms mean `regTest` and its memory variants, with memory `memTest` and
`memIncTest`. -/
theorem compareAndBitTest : Obligations.CompareAndBitTest := by
  intro op r k s
  refine ⟨fun hE o => ?onRegisters, fun s1 y o ho => ?fromMemory, ?memReg, fun i => ?memImm, fun hE => ?increment⟩
  case onRegisters =>
    simp only [exec_testOp_regReg, exec_testOp_regImm]
    exact ⟨fun _ => regTest_completes hE, fun _ => regTest_completes hE⟩
  case fromMemory =>
    rw [exec_testOp_regMem, exec_testOp_regMemInc]
    exact ⟨regMemTest_completes ho, regMemIncTest_completes ho⟩
  case memReg => exact testsWord_of_memTest (exec_testOp_memReg op r k s)
  case memImm => exact testsWord_of_memTest (exec_testOp_memImm op k i s)
  case increment =>
    exact ⟨testsWord_of_memIncTest hE (exec_testOp_memIncReg op r k s),
      fun i => testsWord_of_memIncTest hE (exec_testOp_memIncImm op k i s)⟩

end Sys2Proof.Machine
end

section
/-! N's-adjust addition and subtraction against exact integers: O23, O24 (R180, R181). -/

namespace Sys2Proof.Machine

section
variable {x y : Nibble} {cin : Bool} {n : Nat}

/-! ### Addition (R180) -/

theorem nadd_of_le (h : n ≤ x.toNat + y.toNat + cin.toNat) :
    nadd x y cin n = aluOut (BitVec.ofNat 4 (x.toNat + y.toNat + cin.toNat - n)) true := by
  rw [nadd, carryIn_eq_toNat]
  exact if_pos h

theorem nadd_of_lt (h : x.toNat + y.toNat + cin.toNat < n) :
    nadd x y cin n = aluOut (BitVec.ofNat 4 (x.toNat + y.toNat + cin.toNat)) false := by
  rw [nadd, carryIn_eq_toNat]
  exact if_neg (Nat.not_le.2 h)

theorem nadd_res_of_le (h : n ≤ x.toNat + y.toNat + cin.toNat) :
    (nadd x y cin n).res.toNat = (x.toNat + y.toNat + cin.toNat - n) % 16 := by
  rw [nadd_of_le h, aluOut_res, BitVec.toNat_ofNat]

theorem nadd_c_of_le (h : n ≤ x.toNat + y.toNat + cin.toNat) : (nadd x y cin n).c = true := by
  rw [nadd_of_le h, aluOut_c]

/-- A sum below the radix fits in four bits, since the radix is at most 16. -/
theorem nadd_res_of_lt (hn : n ≤ 16) (h : x.toNat + y.toNat + cin.toNat < n) :
    (nadd x y cin n).res.toNat = x.toNat + y.toNat + cin.toNat := by
  rw [nadd_of_lt h, aluOut_res, BitVec.toNat_ofNat]
  exact Nat.mod_eq_of_lt (Nat.lt_of_lt_of_le h hn)

theorem nadd_c_of_lt (h : x.toNat + y.toNat + cin.toNat < n) : (nadd x y cin n).c = false := by
  rw [nadd_of_lt h, aluOut_c]

theorem nadd_z_iff : (nadd x y cin n).z = true ↔ (nadd x y cin n).res = 0#4 := by
  rcases lt_or_ge (x.toNat + y.toNat + cin.toNat) n with h | h
  · rw [nadd_of_lt h, aluOut_z_iff, aluOut_res]
  · rw [nadd_of_le h, aluOut_z_iff, aluOut_res]

/-- Taking the radix off is adding the complement the code's field stands for, modulo 16 (R78, R180). -/
theorem nadd_res_of_complement (hn : n ≤ 16) (h : n ≤ x.toNat + y.toNat + cin.toNat) :
    (nadd x y cin n).res.toNat = (16 - n + (x.toNat + y.toNat + cin.toNat)) % 16 := by
  rw [nadd_res_of_le h]
  omega

/-- Two digits of the radix add to one digit and a carry, as in the positional system of that radix. -/
theorem nadd_of_digits (hn : n ≤ 16) (hx : x.toNat < n) (hy : y.toNat < n) :
    (nadd x y cin n).res.toNat < n ∧
      x.toNat + y.toNat + cin.toNat = (nadd x y cin n).res.toNat + n * (nadd x y cin n).c.toNat := by
  rcases lt_or_ge (x.toNat + y.toNat + cin.toNat) n with h | h
  · rw [nadd_res_of_lt hn h, nadd_c_of_lt h]
    exact ⟨h, rfl⟩
  · have hcin := cin.toNat_le
    rw [nadd_res_of_le h, nadd_c_of_le h, Bool.toNat_true]
    omega

/-- In radix 16 what is taken off a sum that reaches the radix is what four bits drop. -/
theorem nadd_sixteen : nadd x y cin 16 = add4 x y cin := by
  rw [add4, carryIn_eq_toNat]
  rcases lt_or_ge (x.toNat + y.toNat + cin.toNat) 16 with h | h
  · rw [nadd_of_lt h, decide_eq_false (Nat.not_le.2 h)]
  · have hres : BitVec.ofNat 4 (x.toNat + y.toNat + cin.toNat - 16) = BitVec.ofNat 4 (x.toNat + y.toNat + cin.toNat) :=
      BitVec.eq_of_toNat_eq (Nat.mod_eq_sub_mod h).symm
    rw [nadd_of_le h, hres, decide_eq_true h]

/-! ### Subtraction (R181) -/

theorem nsub_of_neg (h : (x.toNat : Int) - y.toNat - cin.toNat < 0) :
    nsub x y cin n = aluOut (BitVec.ofInt 4 ((x.toNat : Int) - y.toNat - cin.toNat + n)) true := by
  rw [nsub, carryIn_eq_toNat]
  exact if_pos h

theorem nsub_of_nonneg (h : 0 ≤ (x.toNat : Int) - y.toNat - cin.toNat) :
    nsub x y cin n = aluOut (BitVec.ofInt 4 ((x.toNat : Int) - y.toNat - cin.toNat)) false := by
  rw [nsub, carryIn_eq_toNat]
  exact if_neg (Int.not_lt.2 h)

theorem ofInt_four_toNat (t : Int) : ((BitVec.ofInt 4 t).toNat : Int) = t % 16 := by
  rw [BitVec.toNat_ofInt]
  exact Int.toNat_of_nonneg (Int.emod_nonneg _ (by decide))

theorem nsub_res_of_neg (h : (x.toNat : Int) - y.toNat - cin.toNat < 0) :
    ((nsub x y cin n).res.toNat : Int) = ((x.toNat : Int) - y.toNat - cin.toNat + n) % 16 := by
  rw [nsub_of_neg h, aluOut_res, ofInt_four_toNat]

theorem nsub_c_of_neg (h : (x.toNat : Int) - y.toNat - cin.toNat < 0) : (nsub x y cin n).c = true := by
  rw [nsub_of_neg h, aluOut_c]

/-- A difference that needs no borrow is at most the minuend, which has four bits. -/
theorem nsub_res_of_nonneg (h : 0 ≤ (x.toNat : Int) - y.toNat - cin.toNat) :
    ((nsub x y cin n).res.toNat : Int) = (x.toNat : Int) - y.toNat - cin.toNat := by
  rw [nsub_of_nonneg h, aluOut_res, ofInt_four_toNat]
  omega

theorem nsub_c_of_nonneg (h : 0 ≤ (x.toNat : Int) - y.toNat - cin.toNat) : (nsub x y cin n).c = false := by
  rw [nsub_of_nonneg h, aluOut_c]

theorem nsub_z_iff : (nsub x y cin n).z = true ↔ (nsub x y cin n).res = 0#4 := by
  rcases lt_or_ge ((x.toNat : Int) - y.toNat - cin.toNat) 0 with h | h
  · rw [nsub_of_neg h, aluOut_z_iff, aluOut_res]
  · rw [nsub_of_nonneg h, aluOut_z_iff, aluOut_res]

/-- In radix 16 what is added to a negative difference is what four bits drop. -/
theorem nsub_sixteen : nsub x y cin 16 = sub4 x y cin := by
  rw [sub4, carryIn_eq_toNat]
  rcases lt_or_ge ((x.toNat : Int) - y.toNat - cin.toNat) 0 with h | h
  · have hres : BitVec.ofInt 4 ((x.toNat : Int) - y.toNat - cin.toNat + (16 : Nat)) =
        BitVec.ofInt 4 ((x.toNat : Int) - y.toNat - cin.toNat) := by
      apply BitVec.eq_of_toNat_eq
      zify
      rw [ofInt_four_toNat, ofInt_four_toNat]
      exact Int.add_emod_right _ 16
    rw [nsub_of_neg h, hres, decide_eq_true h]
  · rw [nsub_of_nonneg h, decide_eq_false (Int.not_lt.2 h)]

/-- The field of the code stands for the radix modulo 16, so that 16, whose field is 0, adds nothing (R78). -/
theorem fieldOfRadix_toNat : (fieldOfRadix n).toNat = n % 16 := BitVec.toNat_ofNat n 4

theorem nsub_res_of_field (h : (x.toNat : Int) - y.toNat - cin.toNat < 0) :
    ((nsub x y cin n).res.toNat : Int) =
      (((x.toNat : Int) - y.toNat - cin.toNat) % 16 + (fieldOfRadix n).toNat) % 16 := by
  rw [nsub_res_of_neg h, fieldOfRadix_toNat, Int.natCast_mod]
  exact Int.add_emod _ _ 16

end

/-- Settles O23: the radix ADC is `nadd`, by whether the sum reaches the radix, and INC the same with 0 for C. -/
theorem radixAddition : Obligations.RadixAddition := by
  refine ⟨fun n cin x y _ hn => ?_, fun _ _ _ => nadd_sixteen, rfl, rfl, rfl, rfl, rfl, rfl, fun _ _ _ _ => rfl⟩
  exact ⟨fun h => ⟨nadd_res_of_le h, nadd_c_of_le h⟩, fun h => ⟨nadd_res_of_lt hn h, nadd_c_of_lt h⟩, nadd_z_iff,
    by omega, nadd_res_of_complement hn, nadd_of_digits hn⟩

/-- Settles O24: the radix SBC is `nsub`, by the sign of the difference, and DEC the same with 0 for the borrow. -/
theorem radixSubtraction : Obligations.RadixSubtraction := by
  refine ⟨fun n cin x y _ _ => ?_, fun _ _ _ => nsub_sixteen, fun _ _ _ _ _ _ => nsub_res_of_field, rfl, rfl, rfl, rfl,
    fun _ _ _ _ => rfl⟩
  exact ⟨fun h => ⟨nsub_res_of_neg h, nsub_c_of_neg h⟩, fun h => ⟨nsub_res_of_nonneg h, nsub_c_of_nonneg h⟩, nsub_z_iff⟩

end Sys2Proof.Machine
end

section
/-! The radix forms, and that they complete: O30, O31 (R183). -/

namespace Sys2Proof.Machine

/-! ### ADC and SBC by operand form -/

section
variable (op : RadixOp) (n : Nat) (k : Idx) (s : State)

theorem exec_radixOp_regReg : exec (op.regReg n) s = regForm 2 (op.alu n) .b s.a s := by
  cases op <;> rfl

theorem exec_radixOp_regMem : exec (op.regMem k n) s = regMemForm 2 (op.alu n) .b k s := by
  cases op <;> cases k <;> rfl

theorem exec_radixOp_regMemInc : exec (op.regMemInc k n) s = regMemIncForm 2 (op.alu n) .b k s := by
  cases op <;> cases k <;> rfl

theorem exec_radixOp_memReg : exec (op.memReg k n) s = memForm 2 (op.alu n) k s.b s := by
  cases op <;> cases k <;> rfl

theorem exec_radixOp_memZero : exec (op.memZero k n) s = memForm 2 (op.alu n) k 0#4 s := by
  cases op <;> cases k <;> rfl

theorem exec_radixOp_memIncReg : exec (op.memIncReg k n) s = memIncForm 2 (op.alu n) k s.b s := by
  cases op <;> cases k <;> rfl

theorem exec_radixOp_memIncZero : exec (op.memIncZero k n) s = memIncForm 2 (op.alu n) k 0#4 s := by
  cases op <;> cases k <;> rfl

end

/-! ### INC and DEC by operand form: the second operand is 1 (R198, R200) -/

section
variable (op : StepOp) (n : Nat) (k : Idx) (s : State)

theorem exec_stepOp_mem : exec (op.mem k n) s = memForm 2 (op.alu n) k 1#4 s := by
  cases op <;> cases k <;> rfl

theorem exec_stepOp_memInc : exec (op.memInc k n) s = memIncForm 2 (op.alu n) k 1#4 s := by
  cases op <;> cases k <;> rfl

end

/-- Settles O30: the forms mean `regForm` and its memory variants with destination B. -/
theorem radixToRegister : Obligations.RadixToRegister := by
  intro op n k s s1 y o ho
  rw [exec_radixOp_regReg, exec_radixOp_regMem, exec_radixOp_regMemInc]
  refine ⟨fun hE hy => ?_, regMemForm_completes (r := .b) ho, regMemIncForm_completes (r := .b) ho⟩
  subst hy
  exact regForm_completes (r := .b) hE ho

/-- Settles O31: every form means `memForm` or `memIncForm` with B, 0 or 1 as second operand. -/
theorem radixToMemory : Obligations.RadixToMemory := fun n k s =>
  ⟨fun op => ⟨modifiesWord_of_memForm (exec_radixOp_memReg op n k s), modifiesWord_of_memForm (exec_radixOp_memZero op n k s)⟩,
    fun op => modifiesWord_of_memForm (exec_stepOp_mem op n k s),
    fun hE => ⟨fun op => ⟨modifiesWord_of_memIncForm hE (exec_radixOp_memIncReg op n k s),
        modifiesWord_of_memIncForm hE (exec_radixOp_memIncZero op n k s)⟩,
      fun op => modifiesWord_of_memIncForm hE (exec_stepOp_memInc op n k s)⟩⟩

end Sys2Proof.Machine
end

section
/-! Logic operations bit by bit: O22 (R210). -/

namespace Sys2Proof.Machine

section
variable (cin : Bool) (x y : Nibble) (k : Nat)

theorem aluAnd_res_getLsbD : (aluAnd cin x y).res.getLsbD k = (x.getLsbD k && y.getLsbD k) := by
  rw [aluAnd, aluOut_res, BitVec.getLsbD_and]

theorem aluOr_res_getLsbD : (aluOr cin x y).res.getLsbD k = (x.getLsbD k || y.getLsbD k) := by
  rw [aluOr, aluOut_res, BitVec.getLsbD_or]

theorem aluXor_res_getLsbD : (aluXor cin x y).res.getLsbD k = (x.getLsbD k != y.getLsbD k) := by
  rw [aluXor, aluOut_res, BitVec.getLsbD_xor]

theorem aluAnd_z_iff : (aluAnd cin x y).z = true ↔ (aluAnd cin x y).res = 0#4 := aluOut_z_iff _ _

theorem aluOr_z_iff : (aluOr cin x y).z = true ↔ (aluOr cin x y).res = 0#4 := aluOut_z_iff _ _

theorem aluXor_z_iff : (aluXor cin x y).z = true ↔ (aluXor cin x y).res = 0#4 := aluOut_z_iff _ _

end

/-- Settles O22: AND, OR and XOR are `aluAnd`, `aluOr` and `aluXor`, and BIT is `aluAnd` too. -/
theorem logicOperations : Obligations.LogicOperations := by
  intro cin x y
  refine ⟨fun k _ => ⟨aluAnd_res_getLsbD cin x y k, aluOr_res_getLsbD cin x y k, aluXor_res_getLsbD cin x y k,
    aluAnd_res_getLsbD cin x y k⟩, ?flags⟩
  case flags =>
    rintro o (rfl | rfl | rfl | rfl)
    · exact ⟨aluAnd_c cin x y, aluAnd_z_iff cin x y⟩
    · exact ⟨aluOr_c cin x y, aluOr_z_iff cin x y⟩
    · exact ⟨aluXor_c cin x y, aluXor_z_iff cin x y⟩
    · exact ⟨aluAnd_c cin x y, aluAnd_z_iff cin x y⟩

end Sys2Proof.Machine
end

section
/-! Shifts and rotates, bit by bit and by operand form: O25, O32 (R250). -/

namespace Sys2Proof.Machine

/-! ### The five bits a rotate moves: the word and C -/

section
variable (cin : Bool) (x y : Nibble) (k : Nat)

/-- RL leaves the low four of the five bits that the word and, below it, the old C make (R250). -/
theorem aluRl_res : (aluRl cin x y).res = (x.concat cin).setWidth 4 := by
  apply BitVec.eq_of_toNat_eq
  rw [aluRl, aluOut_res, BitVec.toNat_ofNat, BitVec.toNat_setWidth, BitVec.toNat_concat, carryIn_eq_toNat, Nat.mul_comm]

/-- RR leaves the high four of the five bits that the old C and, below it, the word make (R250). -/
theorem aluRr_res : (aluRr cin x y).res = (x.cons cin).extractLsb' 1 4 := by
  apply BitVec.eq_of_toNat_eq
  rw [aluRr, aluOut_res, BitVec.toNat_ofNat, BitVec.extractLsb'_toNat, BitVec.toNat_cons', carryIn_eq_toNat,
    Nat.shiftLeft_eq, Nat.shiftRight_eq_div_pow]
  omega

theorem aluRl_res_getLsbD_zero : (aluRl cin x y).res.getLsbD 0 = cin := by
  rw [aluRl_res, BitVec.getLsbD_setWidth, BitVec.getLsbD_concat_zero]
  rfl

theorem aluRl_res_getLsbD_succ (hk : k < 3) : (aluRl cin x y).res.getLsbD (k + 1) = x.getLsbD k := by
  rw [aluRl_res, BitVec.getLsbD_setWidth, BitVec.getLsbD_concat_succ, decide_eq_true (Nat.succ_lt_succ hk), Bool.true_and]

theorem aluRr_res_getLsbD_three : (aluRr cin x y).res.getLsbD 3 = cin := by
  rw [aluRr_res, BitVec.getLsbD_extractLsb', BitVec.getLsbD_cons]
  rfl

theorem aluRr_res_getLsbD_of_lt (hk : k < 3) : (aluRr cin x y).res.getLsbD k = x.getLsbD (k + 1) := by
  have hbit : 1 + k ≠ 4 := by omega
  rw [aluRr_res, BitVec.getLsbD_extractLsb', BitVec.getLsbD_cons, if_neg hbit, decide_eq_true (Nat.lt_succ_of_lt hk),
    Bool.true_and, Nat.add_comm]

/-- SLL is RL with 0 in place of the old C (R250). -/
theorem shiftOp_sll_alu : ShiftOp.sll.alu cin x y = aluRl false x y := rfl

/-- SRL is RR with 0 in place of the old C (R250). -/
theorem shiftOp_srl_alu : ShiftOp.srl.alu cin x y = aluRr false x y := rfl

theorem shiftOp_z_iff (op : ShiftOp) : (op.alu cin x y).z = true ↔ (op.alu cin x y).res = 0#4 := by
  cases op <;> exact aluOut_z_iff _ _

end

/-- Settles O25: RL and RR move the five bits of the word and C, SLL and SRL are the same with 0 for C. -/
theorem shiftsAndRotates : Obligations.ShiftsAndRotates := by
  intro cin x y
  refine ⟨fun k hk => ⟨?sll, ?rl, ?srl, ?rr⟩, ?sllIn, ?rlIn, ?srlIn, ?rrIn, rfl, rfl, rfl, rfl, shiftOp_z_iff cin x y⟩
  case sll => rw [shiftOp_sll_alu, aluRl_res_getLsbD_succ _ _ _ _ hk]
  case rl => exact aluRl_res_getLsbD_succ cin x y k hk
  case srl => rw [shiftOp_srl_alu, aluRr_res_getLsbD_of_lt _ _ _ _ hk]
  case rr => exact aluRr_res_getLsbD_of_lt cin x y k hk
  case sllIn => rw [shiftOp_sll_alu, aluRl_res_getLsbD_zero]
  case rlIn => exact aluRl_res_getLsbD_zero cin x y
  case srlIn => rw [shiftOp_srl_alu, aluRr_res_getLsbD_three]
  case rrIn => exact aluRr_res_getLsbD_three cin x y

/-! ### By operand form: there is no second operand, 0 stands in its place -/

section
variable (op : ShiftOp) (r : Reg) (k : Idx) (s : State)

theorem exec_shiftOp_reg : exec (op.reg r) s = regForm 1 op.alu r 0#4 s := by
  cases op <;> cases r <;> rfl

theorem exec_shiftOp_mem : exec (op.mem k) s = memForm 2 op.alu k 0#4 s := by
  cases op <;> cases k <;> rfl

theorem exec_shiftOp_memInc : exec (op.memInc k) s = memIncForm 2 op.alu k 0#4 s := by
  cases op <;> cases k <;> rfl

end

/-- Settles O32: the forms mean `regForm`, `memForm` and `memIncForm` with the operation of the mnemonic. -/
theorem shiftForms : Obligations.ShiftForms := by
  intro op s
  refine ⟨fun r o hE ho => ?_, fun k => ⟨?_, fun hE => ?_⟩⟩
  · rw [exec_shiftOp_reg]
    exact regForm_completes hE ho
  · exact modifiesWord_of_memForm (exec_shiftOp_mem op k s)
  · exact modifiesWord_of_memIncForm hE (exec_shiftOp_memInc op k s)

end Sys2Proof.Machine
end

section
/-! The 8-bit transfers between registers, and that they complete: O38. -/

namespace Sys2Proof.Machine

/-! ### What each form does: the value it takes and where it puts it -/

/-- The model reads a byte of X or Y by its bits, the statements by shift and truncation (R12). -/
theorem exec_ldbBAByte (r : ByteReg) (s : State) : exec (ldbBAByte r) s = putBA (r.read s) s := by
  cases r <;> rfl

section
variable (k : Idx) (v : Byte) (s : State)

theorem exec_ldbLowImm : exec (ldbLowImm k v) s = putLow k v s := by
  cases k <;> rfl

theorem exec_ldbLowBA : exec (ldbLowBA k) s = putLowBA k s := by
  cases k <;> rfl

theorem exec_ldbHighBA : exec (ldbHighBA k) s = putHighBA k s := by
  cases k <;> rfl

end

/-! ### The transfers complete -/

section
variable {s : State}

theorem putBA_completes (v : Byte) (hE : flagE s.f = false) :
    putBA v s = .next (endedSameCZ { s with b := v.extractLsb' 4 4, a := v.extractLsb' 0 4 } 1 (nextPc s)) :=
  putBA_next.2 ⟨hE, rfl⟩

/-- A byte in EXT counts from the next instruction on: the transfer ends with E = 1 (R26, R278, R279). -/
theorem putExt_completes (v : Byte) (hE : flagE s.f = false) :
    putExt v s = .next (endedWithF { s with ext := v } 1 (nextPc s)
      (packF true (flagI s.f) (flagC s.f) (flagZ s.f))) :=
  putExt_next.2 ⟨hE, rfl⟩

/-- Without the extension the upper byte of the index register stays (R280); `putLow_extended` is the other case. -/
theorem putLow_unextended (k : Idx) (v : Byte) (hE : flagE s.f = false) :
    putLow k v s = .next (endedSameCZ (s.setIdx k ((s.idx k).extractLsb' 8 8 ++ v)) 1 (nextPc s)) := by
  rw [putLow_next, hE, retire_of_pc 1 (setIdx_pc s k _)]
  rfl

theorem putLowBA_completes (k : Idx) (hE : flagE s.f = false) :
    putLowBA k s = .next (endedSameCZ (s.setIdx k ((s.idx k).extractLsb' 8 8 ++ s.ba)) 1 (nextPc s)) :=
  putLowBA_next.2 ⟨hE, (retire_of_pc 1 (setIdx_pc s k _)).symm⟩

theorem putHighBA_completes (k : Idx) (hE : flagE s.f = false) :
    putHighBA k s = .next (endedSameCZ (s.setIdx k (s.ba ++ (s.idx k).extractLsb' 0 8)) 1 (nextPc s)) :=
  putHighBA_next.2 ⟨hE, (retire_of_pc 1 (setIdx_pc s k _)).symm⟩

end

/-- Settles O38: each form is `putBA`, `putExt`, `putLow`, `putLowBA` or `putHighBA` of the byte it takes. -/
theorem byteTransfers : Obligations.ByteTransfers := by
  refine fun s v => ⟨fun k => ⟨fun hE => ?lowImm, fun hE => putLow_extended hE⟩, fun hE =>
    ⟨putBA_completes v hE, fun r hv => ?byteToBA, putExt_completes v hE, putExt_completes s.ba hE,
      fun k => ⟨?lowBA, ?highBA⟩⟩⟩
  case lowImm => exact (exec_ldbLowImm k v s).trans (putLow_unextended k v hE)
  case byteToBA =>
    rw [exec_ldbBAByte, ← hv]
    exact putBA_completes v hE
  case lowBA => exact (exec_ldbLowBA k s).trans (putLowBA_completes k hE)
  case highBA => exact (exec_ldbHighBA k s).trans (putHighBA_completes k hE)

end Sys2Proof.Machine
end

section
/-! PUSH and POP of A, B and F: where they complete and where they fault: O42 (R290 to R292, R358). -/

namespace Sys2Proof.Machine

/-! ### What the 4-bit stack operations refuse -/

section
variable {s : State}

theorem push4_unmapped (v : Nibble) (hk : kindAt s.cfg (eaSp2 (s.sp2 - 1#8)) ≠ some .ram) :
    push4 v s = .error (.unmappedWrite (eaSp2 (s.sp2 - 1#8))) := if_neg hk

theorem pop4_unmapped (hk : kindAt s.cfg (eaSp2 s.sp2) ≠ some .ram) :
    pop4 s = .error (.unmappedRead (eaSp2 s.sp2)) := if_neg hk

/-- A pop of a word that nothing has written is `UndefinedRead` (R358, D14). -/
theorem pop4_undefined (hk : kindAt s.cfg (eaSp2 s.sp2) = some .ram) (hv : wordAt s (eaSp2 s.sp2).toNat = none) :
    pop4 s = .error (.undefinedRead (eaSp2 s.sp2)) := by
  have hl : Cells.lookup s.mem (eaSp2 s.sp2).toNat = none := hv
  rw [pop4, if_pos hk, hl]

/-! ### The instructions complete or fault as the stack operation they begin with -/

/-- With E = 0 the fault of an instruction's first operation is the fault of the instruction. -/
theorem extInvalid_bind_error {α : Type} {r : Except Fault α} {e : Fault} (k : α → Except Fault State)
    (hE : flagE s.f = false) (h : r = .error e) : extInvalid s (r >>= k) = .fault e := by
  rw [extInvalid_off _ hE, h]
  rfl

theorem pushNibble_completes (v : Nibble) (hE : flagE s.f = false)
    (hk : kindAt s.cfg (eaSp2 (s.sp2 - 1#8)) = some .ram) :
    pushNibble v s = .next (endedSameCZ (pushed4 s v) 1 (nextPc s)) :=
  pushNibble_next.2 ⟨hE, _, push4_iff.2 ⟨hk, rfl⟩, rfl⟩

theorem popReg_completes {v : Nibble} (r : Reg) (hE : flagE s.f = false)
    (hk : kindAt s.cfg (eaSp2 s.sp2) = some .ram) (hv : wordAt s (eaSp2 s.sp2).toNat = some v) :
    popReg r s = .next (endedSameCZ ((popped4 s).setReg r v) 1 (nextPc s)) :=
  popReg_next.2 ⟨hE, v, _, pop4_iff.2 ⟨hk, hv, rfl⟩, (retire_of_pc 1 (setReg_pc (popped4 s) r v)).symm⟩

theorem pushNibble_unmapped (v : Nibble) (hE : flagE s.f = false)
    (hk : kindAt s.cfg (eaSp2 (s.sp2 - 1#8)) ≠ some .ram) :
    pushNibble v s = .fault (.unmappedWrite (eaSp2 (s.sp2 - 1#8))) :=
  extInvalid_bind_error _ hE (push4_unmapped v hk)

theorem popReg_fault {e : Fault} (r : Reg) (hE : flagE s.f = false) (h : pop4 s = .error e) :
    popReg r s = .fault e := extInvalid_bind_error _ hE h

theorem exec_popF_fault {e : Fault} (hE : flagE s.f = false) (h : pop4 s = .error e) :
    exec .popF s = .fault e := extInvalid_bind_error _ hE h

end

theorem exec_pushReg (r : Reg) (s : State) : exec (pushReg r) s = pushNibble (s.reg r) s := by
  cases r <;> rfl

theorem exec_popReg4 (r : Reg) (s : State) : exec (popReg4 r) s = popReg r s := by
  cases r <;> rfl

/-- Settles O42: the pushes mean `pushNibble`, the pops begin with `pop4`, which delivers the word or faults. -/
theorem dataStackForms : Obligations.DataStackForms := by
  intro r s v hE
  rw [exec_pushReg, exec_popReg4]
  refine ⟨fun hk => ⟨pushNibble_completes _ hE hk, pushNibble_completes _ hE hk⟩,
    fun hk => ⟨pushNibble_unmapped _ hE hk, pushNibble_unmapped _ hE hk⟩,
    fun hk => ⟨popReg_completes r hE hk, fun hv => ?unwritten⟩, fun hk => ?unmapped⟩
  case unwritten =>
    have hpop := pop4_undefined hk hv
    exact ⟨popReg_fault r hE hpop, exec_popF_fault hE hpop⟩
  case unmapped =>
    have hpop := pop4_unmapped hk
    exact ⟨popReg_fault r hE hpop, exec_popF_fault hE hpop⟩

end Sys2Proof.Machine
end

section
/-! Jumps to a computed target and calls, and that they complete: O45, O46. -/

namespace Sys2Proof.Machine

theorem branchTarget_eq (s : State) (d : Addr) : branchTarget s d = nextPc s + d := rfl

/-- An unsigned displacement is the number its bits say (R383, R385, R393). -/
theorem branchTarget_unsigned {n : Nat} (s : State) (d : BitVec n) :
    branchTarget s (d.setWidth 16) = nextPc s + BitVec.ofNat 16 d.toNat := by
  rw [branchTarget_eq, BitVec.ofNat_toNat]

theorem jumpTo_completes {s : State} (target : Addr) (hE : flagE s.f = false) :
    jumpTo target s = .next (endedSameCZ s 1 target) := jumpTo_next.2 ⟨hE, rfl⟩

/-- Settles O45: three are `jumpTo` of the target they compute, the fourth reads its displacement first. -/
theorem registerJumps : Obligations.RegisterJumps := by
  refine fun s hE => ⟨?_, ?_, jumpTo_completes s.y hE, fun a s1 v hr => ?_⟩
  · rw [← branchTarget_unsigned]
    exact jumpTo_completes _ hE
  · have hba : s.ba.toNat = s.b.toNat * 16 + s.a.toNat := toNat_append s.b s.a
    rw [← hba, ← branchTarget_unsigned]
    exact jumpTo_completes _ hE
  · rw [Page.address_low] at hr
    rw [← branchTarget_unsigned]
    exact execJrMemAddr6_next.2 ⟨hE, v, s1, hr, rfl⟩

/-- Settles O46: all three begin with the push of the next address. -/
theorem calls : Obligations.Calls := by
  intro s hin
  have hpush : push16 (s.pc + 1#16) s = .ok (pushed16 s (nextPc s)) := push16_iff.2 ⟨hin, rfl⟩
  refine ⟨fun i hE => ?_, fun d disp hd => ?_, fun a s1 v hE hr => ?_⟩
  · rw [BitVec.ofNat_toNat]
    exact execCalzImm8_next.2 ⟨hE, _, hpush, rfl⟩
  · rw [← signOperand_eq hd]
    exact execCalrSign8_next.2 ⟨_, hpush, rfl⟩
  · rw [Page.address_low] at hr
    rw [← branchTarget_unsigned]
    exact execCalrMemAddr6_next.2 ⟨hE, _, v, s1, hpush, hr, rfl⟩

end Sys2Proof.Machine
end

section
/-! What a hardware interrupt entry leaves and when it cannot be made, and the cycles of every instruction: O8, O51. -/

namespace Sys2Proof.Machine

/-- An entry can be made exactly where F and PC can be saved (R308, R310). -/
theorem enterInterrupt_iff {v : Nibble} {s t : State} : enterInterrupt v s = .ok t ↔
    kindAt s.cfg (eaSp2 (s.sp2 - 1#8)) = some .ram ∧ inRam16 s.cfg (eaSp1 (s.sp1 - 1#8)) = true ∧
      t = { pushed16 (pushed4 s s.f) s.pc with
        pc := BitVec.ofNat 16 (0x0100 + v.toNat), f := packF false false (flagC s.f) (flagZ s.f), run := .run,
        defer := false, cycles := s.cycles + 3 } := by
  have hpc : 0x0100#16 + v.setWidth 16 = BitVec.ofNat 16 (0x0100 + v.toNat) := by
    rw [BitVec.ofNat_add, BitVec.ofNat_toNat]
  have hf : withE (withI s.f false) false = packF false false (flagC s.f) (flagZ s.f) := by simp [withE]
  rw [enterInterrupt_ok, ← hpc, ← hf]
  constructor
  · rintro ⟨s1, hs, rfl⟩
    obtain ⟨hk, hin, rfl⟩ := saveContext_iff.1 hs
    exact ⟨hk, hin, rfl⟩
  · rintro ⟨hk, hin, rfl⟩
    exact ⟨_, saveContext_iff.2 ⟨hk, hin, rfl⟩, rfl⟩

/-- Settles O51, by what an entry leaves; the acknowledges are no more than an entry after their events. -/
theorem hardwareInterruptEntry : Obligations.HardwareInterruptEntry :=
  ⟨fun _ _ hk hin => enterInterrupt_iff.2 ⟨hk, hin, rfl⟩, fun _ => rfl, fun _ _ => rfl⟩

/-- Settles O8: the instructions by the tables, the entry by what it leaves. -/
theorem cyclesOfEveryInstruction : Obligations.CyclesOfEveryInstruction := by
  refine ⟨fun i s t h => (exec_follows h).cycles, fun v s t h => ?_⟩
  obtain ⟨-, -, rfl⟩ := enterInterrupt_iff.1 h
  rfl

/-! ### The faults of an entry -/

theorem push4_fault {v : Nibble} {s : State} {e : Fault} (h : push4 v s = .error e) :
    e = .unmappedWrite (eaSp2 (s.sp2 - 1#8)) := by
  by_cases hk : kindAt s.cfg (eaSp2 (s.sp2 - 1#8)) = some .ram
  · rw [push4_iff.2 ⟨hk, rfl⟩] at h
    cases h
  · rw [push4_unmapped v hk] at h
    exact (Except.error.inj h).symm

theorem push16_fault {v : Addr} {s : State} {e : Fault} (h : push16 v s = .error e) :
    e = .stack16OutsideRam16 (eaSp1 (s.sp1 - 1#8)) := by
  unfold push16 at h
  split at h
  · cases h
  · exact (Except.error.inj h).symm

/-- An entry faults only where a slot is missing, so never as the end of a run (R290 i, R357 b). -/
theorem enterInterrupt_not_quiescent (v : Nibble) (s : State) : enterInterrupt v s ≠ .error .quiescent := by
  cases h4 : push4 s.f s with
  | error e =>
    obtain rfl := push4_fault h4
    simp [enterInterrupt, saveContext, h4]
  | ok s1 =>
    cases h16 : push16 s.pc s1 with
    | error e =>
      obtain rfl := push16_fault h16
      simp [enterInterrupt, saveContext, h4, h16]
    | ok s2 => simp [enterInterrupt, saveContext, h4, h16]

end Sys2Proof.Machine
end

section
/-! The pins, the request lines, acceptance, and what a boundary does with its input: O49, O50, O52, O55, O60. -/

namespace Sys2Proof.Machine

/-! ### The pins (R331) -/

theorem pinStop_low_iff {s : State} : pinStop s = false ↔ s.run = .halt ∨ s.run = .sleep ∨ s.inReset = true := by
  unfold pinStop
  cases s.run with
  | run | halt | sleep => simp

/-- Settles O49: each form by what it answers, the pins by the run state it leaves. -/
theorem systemForms : Obligations.SystemForms := by
  refine fun s hE => ⟨execNop_next.2 ⟨hE, rfl⟩, execHalt_next.2 ⟨hE, rfl⟩, execSlp_next.2 ⟨hE, rfl⟩,
    fun t => ⟨fun h => ?_, fun h => ?_, pinStop_low_iff⟩⟩
  · obtain ⟨-, rfl⟩ := execHalt_next.1 h
    exact ⟨pinStop_low_iff.2 (.inl rfl), rfl⟩
  · obtain ⟨-, rfl⟩ := execSlp_next.1 h
    exact ⟨pinStop_low_iff.2 (.inr (.inl rfl)), rfl⟩

/-! ### The request lines (R303, R304, R327 c, R330) -/

theorem canRequest_iff {s : State} {w : WakeSource} :
    canRequest s w = true ↔ (s.run = .sleep → w ∈ s.cfg.sleepWake) := by
  unfold canRequest
  cases s.run with
  | run | halt | sleep => simp

theorem latchNmi_nmiPending_iff {i : BoundaryInput} {s : State} : (latchNmi i s).nmiPending = true ↔
    s.nmiPending = true ∨ (i.nmiEdge = true ∧ (s.run = .sleep → .nmi ∈ s.cfg.sleepWake)) := by
  rw [← canRequest_iff]
  simp [latchNmi]

theorem irqLine_iff {i : BoundaryInput} {s : State} {v : Nibble} :
    irqLine i s = some v ↔ i.irq = some v ∧ (s.run = .sleep → .irq v ∈ s.cfg.sleepWake) := by
  rw [← canRequest_iff]
  unfold irqLine
  cases i.irq with
  | none => simp
  | some w =>
    by_cases hw : w = v
    · simp [hw]
    · simp [hw]

theorem inputRefusal_zero {c : Config} {i : BoundaryInput} (h : i.irq = some 0#4) :
    inputRefusal c i = some .irqVectorZero := by
  simp [inputRefusal, h]

theorem inputRefusal_notASource {c : Config} {i : BoundaryInput} {v : Nibble} (h : i.irq = some v) (hv : v ≠ 0#4)
    (hc : v ∉ c.irqSources) : inputRefusal c i = some (.irqNotASource v) := by
  simp [inputRefusal, h, hv, hc]

/-- A refused input refuses the step, before anything else of the input is looked at (R304). -/
theorem step_refused {s : State} {inp : BoundaryInput} {rest : List BoundaryInput} {r : Refusal}
    (hin : s.inputs = inp :: rest) (hr : inputRefusal s.cfg inp = some r) : step s = .refused r := by
  have hr' : inputRefusal s.takeInput.cfg inp = some r := hr
  rw [step, boundary_cons hin, atBoundary, hr']

/-- Settles O60, line by line. -/
theorem requestLines : Obligations.RequestLines :=
  ⟨fun _ _ => ⟨latchNmi_nmiPending_iff, rfl, fun _ => irqLine_iff⟩,
    fun _ _ _ _ hin hi =>
      ⟨fun hv => step_refused hin (inputRefusal_zero (hv ▸ hi)),
        fun hv hc => step_refused hin (inputRefusal_notASource hi hv hc)⟩⟩

/-! ### Acceptance (R305, R306) -/

theorem boundaryOpen_iff {s : State} : boundaryOpen s = true ↔ s.pairMask = .pairSet ∧ s.defer = false := by
  simp [boundaryOpen]

theorem accepted_nmi {irq : Option Nibble} {s : State} (ho : boundaryOpen s = true) (hn : s.nmiPending = true) :
    accepted irq s = some (acceptNmi s) := by
  simp [accepted, ho, hn]

theorem accepted_irq {s : State} {v : Nibble} (ho : boundaryOpen s = true) (hn : s.nmiPending = false)
    (hI : flagI s.f = true) : accepted (some v) s = some (acceptIrq v s) := by
  simp [accepted, ho, hn, hI]

theorem accepted_isSome_iff {irq : Option Nibble} {s : State} : (accepted irq s).isSome = true ↔
    boundaryOpen s = true ∧ (s.nmiPending = true ∨ (irq.isSome = true ∧ flagI s.f = true)) := by
  constructor
  · intro h
    obtain ⟨r, hr⟩ := Option.isSome_iff_exists.1 h
    obtain ⟨ho, ⟨hn, -⟩ | ⟨-, hI, v, rfl, -⟩⟩ := accepted_some hr
    · exact ⟨ho, .inl hn⟩
    · exact ⟨ho, .inr ⟨rfl, hI⟩⟩
  · rintro ⟨ho, h⟩
    cases hn : s.nmiPending with
    | true => rw [accepted_nmi ho hn, Option.isSome_some]
    | false =>
      obtain ⟨hirq, hI⟩ := h.resolve_left (by simp [hn])
      obtain ⟨v, rfl⟩ := Option.isSome_iff_exists.1 hirq
      rw [accepted_irq ho hn hI, Option.isSome_some]

/-- Settles O50, by what is accepted at an open boundary. -/
theorem acceptanceConditions : Obligations.AcceptanceConditions := by
  refine fun irq s => ⟨?_, fun hp hd hn => accepted_nmi (boundaryOpen_iff.2 ⟨hp, hd⟩) hn, fun hp hd hn hI v hv => ?_⟩
  · rw [accepted_isSome_iff, boundaryOpen_iff, and_assoc]
  · rw [hv]
    exact accepted_irq (boundaryOpen_iff.2 ⟨hp, hd⟩) hn hI

/-- With no IRQ on offer nothing is accepted exactly where no NMI is latched or the boundary is closed to it (R306). -/
theorem accepted_none_iff {s : State} :
    accepted none s = none ↔ (s.nmiPending = true → s.pairMask = .pairSet → s.defer = true) := by
  refine ⟨fun h hn hp => ?_, accepted_none_of_held⟩
  by_contra hd
  have ho : boundaryOpen s = true := boundaryOpen_iff.2 ⟨hp, by simpa using hd⟩
  rw [accepted_nmi ho hn] at h
  cases h

/-! ### What a boundary does with its input (R307, R325, R327, R355) -/

section
variable {i : BoundaryInput} {run : State → Host.Outcome State Fault Refusal} {s : State}

theorem atBoundary_reset (hi : inputRefusal s.cfg i = none) (hr : i.reset = true) :
    atBoundary i run s = .next (resetEvent s) := by
  simp [atBoundary, hi, hr]

theorem atBoundary_accepted {r : Except Fault State} (hi : inputRefusal s.cfg i = none) (hr : i.reset = false)
    (hacc : accepted (irqLine i s) (latchNmi i s) = some r) : atBoundary i run s = finish r := by
  simp [atBoundary, hi, hr, hacc]

theorem atBoundary_standby (hi : inputRefusal s.cfg i = none) (hr : i.reset = false)
    (hacc : accepted (irqLine i s) (latchNmi i s) = none) (hrun : s.run ≠ .run) :
    atBoundary i run s = .next (latchNmi i s) := by
  cases hs : s.run with
  | run => exact absurd hs hrun
  | halt | sleep => simp [atBoundary, hi, hr, hacc, hs]

/-- A latched NMI that can be taken is taken where nothing is offered any more, in RUN and in standby (R306, R327). -/
theorem step_takes_latchedNmi (hin : s.inputs = []) (hn : s.nmiPending = true) (ho : boundaryOpen s = true) :
    step s = finish (acceptNmi (afterInput s)) := by
  have hsome : accepted none s ≠ none := by simp [accepted_nmi ho hn]
  have hacc : accepted none (latchNmi quietInput (afterInput s)) = some (acceptNmi (afterInput s)) := by
    rw [latchNmi_quiet]
    exact accepted_nmi ho hn
  rw [step, boundary_nil hin (.inr hsome)]
  exact atBoundary_accepted rfl rfl hacc

end

/-- Settles O52, in the order in which a boundary looks at its input. -/
theorem boundaryOrder : Obligations.BoundaryOrder := by
  refine ⟨fun s inp rest hin hi => ?_, fun s hin hn hp hd =>
    step_takes_latchedNmi hin hn (boundaryOpen_iff.2 ⟨hp, hd⟩)⟩
  rw [step, boundary_cons hin]
  exact ⟨atBoundary_reset hi, fun hr => ⟨fun r => atBoundary_accepted hi hr, atBoundary_standby hi hr⟩⟩

/-! ### Standby (R325 to R327, R357 b) -/

/-- In standby the run is over exactly where nothing is offered any more and no latched NMI can be taken. -/
theorem standby_quiescent_iff {s : State} (hrun : s.run ≠ .run) (hin : s.inputs = []) :
    step s = .fault .quiescent ↔ accepted none s = none := by
  refine ⟨fun h => ?_, boundary_quiescent hin hrun⟩
  cases hacc : accepted none s with
  | none => rfl
  | some r =>
    obtain ⟨ho, ⟨hn, -⟩ | ⟨-, -, v, hv, -⟩⟩ := accepted_some hacc
    · rw [step_takes_latchedNmi hin hn ho, finish_fault] at h
      exact absurd h (enterInterrupt_not_quiescent _ _)
    · cases hv

/-- The quiet boundary at the end of the input list leaves what acceptance looks at as it is. -/
theorem accepted_latched_of_nil {s : State} (hin : s.inputs = [])
    (h : accepted (irqLine (offered s) s.takeInput) s.latched = none) : accepted none s = none := by
  have hquiet : offered s = quietInput := by rw [offered, hin, List.headD_nil]
  rw [State.latched, hquiet, latchNmi_quiet] at h
  have hheld : accepted none s.takeInput = none := h
  exact accepted_none_iff.2 (accepted_none_iff (s := s.takeInput).1 hheld)

/-- Settles O55: of what a step can do, standby leaves all but the instruction. -/
theorem standbyKeepsState : Obligations.StandbyKeepsState := by
  refine ⟨fun s t hrun h => ?_, fun s hrun hin => ?_⟩
  · obtain hreset | ⟨hr, hacc | ⟨hacc, ⟨-, ht⟩ | ⟨hgo, -⟩⟩⟩ := step_next h
    · exact .inl hreset
    · exact .inr (.inl ⟨hr, hacc⟩)
    · refine .inr (.inr ⟨hr, fun hin => ?_, hacc, ht⟩)
      rw [(standby_quiescent_iff hrun hin).2 (accepted_latched_of_nil hin hacc)] at h
      cases h
    · exact absurd hgo hrun
  · rw [standby_quiescent_iff hrun hin, accepted_none_iff]

end Sys2Proof.Machine
end
